-- ==== Sys2Proof/Word.lean ====
section
/-! DEFINITION. The word types of the Portiva CI418: the byte of its register window and the
16-bit quantities the window shows as two bytes (Conventions, 00_scope). -/

namespace Sys2Proof

/-- A byte holds a number from 0 to 255 (00_scope, Conventions, Numbers). -/
abbrev Byte := BitVec 8

/-- A 16-bit quantity, shown high byte first (00_scope, Conventions, Numbers). -/
abbrev Half := BitVec 16

end Sys2Proof
end

