-- ==== Sys2Proof/Syntax.lean ====
section
/-! DEFINITION. The commands of the block: one constructor per row of spec/opcode_table.json, with
the operands that the rule of the row gives it. -/

namespace Sys2Proof

/-- The two downstream ports (R87). -/
inductive PortId where
  | p0
  | p1
  deriving DecidableEq, Repr

/-- The nine staging bytes, by name (R114, R180). -/
inductive StagingByte where
  | kind
  | tag
  | aliasNo
  | raddrH
  | raddrL
  | value
  | mask
  | option
  | rstval
  deriving DecidableEq, Repr

/-- The eight staging bytes beside KIND (R114). The byte ALIAS is `aliasNo`. -/
structure CmdBytes where
  tag : Byte
  aliasNo : Byte
  raddrH : Byte
  raddrL : Byte
  value : Byte
  mask : Byte
  option : Byte
  rstval : Byte
  deriving DecidableEq, Repr

/-- A copy of the nine staging bytes: what the Command Queue holds (R114). -/
structure Staged where
  kind : Byte
  body : CmdBytes
  deriving DecidableEq, Repr

/-- The bytes of a transaction that a target acknowledges, or fails to (R92). -/
inductive SentByte where
  | address      -- the first address byte, with write direction
  | regHigh      -- the register address, high byte (16-bit targets only)
  | regLow       -- the register address, low or only byte
  | readAddress  -- the address byte with read direction, after the repeated start
  | data         -- the data byte of a WRITE
  deriving DecidableEq, Repr

/-- The two causes of a hardware reset (00_scope, Conventions, Reset values). -/
inductive ResetCause where
  | resetnLow
  | powerOn
  deriving DecidableEq, Repr

/-- The commands and events of the CI418, one constructor per row of the opcode table. -/
inductive Instr where
  -- resets
  | hardwareReset (cause : ResetCause)
  | interfaceReset (code : BitVec 4)            -- any section code (R167, R184)
  | resetnRise
  -- flag commands and other writes to the register window
  | flagcmdIgnored (written : Byte)
  | issueStart
  | issueClear
  | issuePulse
  | resultStart
  | resultClear
  | resultPulse
  | scrubStart
  | scrubClear
  | scrubPulse
  | alertStart
  | alertClear
  | alertPulse
  | idisWrite (written : Byte)
  | stagingWrite (which : StagingByte) (written : Byte)
  | windowWriteIgnored (offset : BitVec 6) (written : Byte)
  -- the QUIET input and the Pacing Timer
  | quietAssert
  | quietRelease
  | pacingExpiry
  -- the Command Executor takes the head of the Command Queue
  | commandTake
  | unknownKind (kind : Byte) (b : CmdBytes)
  | attach (b : CmdBytes)
  | detach (b : CmdBytes)
  | release (b : CmdBytes)
  | queryTarget (b : CmdBytes)
  | define (b : CmdBytes)
  | update (b : CmdBytes)
  | retire (b : CmdBytes)
  | queryEntry (b : CmdBytes)
  | read (b : CmdBytes)
  | write (b : CmdBytes)
  | restore (b : CmdBytes)
  | verify (b : CmdBytes)
  | set (b : CmdBytes)
  | commit (b : CmdBytes)
  | portReset (b : CmdBytes)
  -- events on the two I2C buses
  | startCheckLinesHigh (p : PortId)
  | startCheckTimeout (p : PortId)
  | stretchTimeout (p : PortId)
  | transactionEnd (p : PortId) (refused : Option SentByte) (received : Byte)
  | recoveryRoundEnd (p : PortId) (sclHigh sdaHigh : Bool)
  | recoveryStretchTimeout (p : PortId)
  deriving DecidableEq, Repr

end Sys2Proof
end

