-- ==== Sys2Proof/Decode.lean ====
section
/-! DEFINITION. The block has no instruction words: no row of spec/opcode_table.json gives bits. What
it does read as bits is a write to its register window, decoded here by the window map (R180) and
the layout of FLAGCMD (R167, R184). -/

namespace Sys2Proof

/-- The command that a word spells by the table's bits: the table gives no row any bits, so no word
spells a command (log 10). -/
def decodeTableWord (_nbits _w : Nat) : Option Instr := none

/-- The section code of a FLAGCMD byte, bits 3–0 (R184). -/
def flagSection (b : Byte) : BitVec 4 := b.extractLsb' 0 4

/-- The function code of a FLAGCMD byte, bits 6–4; bit 7 is unassigned (R184). -/
def flagFunction (b : Byte) : BitVec 3 := b.extractLsb' 4 3

/-- A write to FLAGCMD, offset 0x0C, as one flag command (R167, R184). -/
def decodeFlagCommand (b : Byte) : Instr :=
  match (flagFunction b).toNat, (flagSection b).toNat with
  | 7, _ => .interfaceReset (flagSection b)
  | 1, 0 => .issueStart
  | 1, 1 => .resultStart
  | 1, 2 => .scrubStart
  | 1, 3 => .alertStart
  | 2, 0 => .issueClear
  | 2, 1 => .resultClear
  | 2, 2 => .scrubClear
  | 2, 3 => .alertClear
  | 3, 0 => .issuePulse
  | 3, 1 => .resultPulse
  | 3, 2 => .scrubPulse
  | 3, 3 => .alertPulse
  | _, _ => .flagcmdIgnored b

/-- The staging byte at an offset, 0x00 to 0x08 (R180). -/
def stagingAt (offset : Nat) : Option StagingByte :=
  [.kind, .tag, .aliasNo, .raddrH, .raddrL, .value, .mask, .option, .rstval][offset]?

/-- A write access of the host to an offset of the register window, as the command it is (R180).
Total: a write to an unassigned or read-only offset is WINDOW_WRITE_IGNORED. -/
def decodeWindowWrite (offset : BitVec 6) (b : Byte) : Instr :=
  match stagingAt offset.toNat with
  | some w => .stagingWrite w b
  | none =>
    if offset = 0x0C then decodeFlagCommand b
    else if offset = 0x0D then .idisWrite b
    else .windowWriteIgnored offset b

end Sys2Proof
end

