-- ==== Sys2Proof/Config.lean ====
section
/-! DEFINITION. What the part fixes (the capacities the spec states) and the one thing it leaves
free: the order in which the part takes two things that come together. -/

namespace Sys2Proof
namespace Config

/-- The Image Table holds at most 512 entries (R2). -/
def imageCapacity : Nat := 512

/-- The Command Queue holds at most 16 records (R114). -/
def queueCapacity : Nat := 16

/-- Completion records plus the reservation never exceed 16 (R142). -/
def completionCapacity : Nat := 16

/-- The Drift Log holds at most 32 records (R154). -/
def logCapacity : Nat := 32

/-- The arbiter passes the Scrub Engine over at most four times in a row (R100). -/
def passedOverLimit : Nat := 4

/-- FREE VALUE, no body. Where the spec says that either of several things may come first inside
one event (R102: the port's grant and the follow-on request; R97: requests that come together at a
DOWN port), the n-th such choice of a run takes alternative `freeChoice n`, counted modulo the
number of alternatives. `State.choices` counts the choices made so far. Nothing constrains it. -/
opaque freeChoice : Nat → Nat

end Config
end Sys2Proof
end

