-- ==== Sys2Proof/Machine/State.lean ====
section
/-! DEFINITION. Everything the spec gives the CI418 as state, as plain data, and its value after
hardware reset. What one block derives from another's state (levels, Busy flags, QCOUNT, IRQn,
FAULTn) is computed in Machine/Flags.lean and stored nowhere twice. -/

namespace Sys2Proof
namespace Machine

/-! ### Keys and entries (chapter The Image Table) -/

/-- The pair (alias, register address) that identifies an entry (R1). -/
structure Key where
  aliasNo : Fin 16
  addr : Half
  deriving DecidableEq, Repr

/-- The class of an entry (R5). -/
inductive EntryClass where
  | watch
  | hold
  | restoreOnly
  | marker
  deriving DecidableEq, Repr

/-- The six states of an entry (R3). -/
inductive EntryState where
  | unseen
  | pending
  | clean
  | drifted
  | repairing
  | failed
  deriving DecidableEq, Repr

/-- One record of the Image Table (R3). -/
structure Entry where
  key : Key
  expected : Byte
  mask : Byte
  cls : EntryClass
  halt : Bool
  resetValue : Option Byte
  state : EntryState
  attempts : Nat
  lastObserved : Option Byte
  drifts : Nat
  deriving DecidableEq, Repr

/-- The Image Table (R2) with the four items of the signature and its check (R105). -/
structure Image where
  entries : List Entry
  signature : Half
  reference : Option Half
  tableFault : Bool
  checks : Byte
  deriving DecidableEq, Repr

/-! ### Targets (chapter Targets and Quarantine) -/

/-- The two engines that work on the image; a target's restorer is one of them (R71). -/
inductive Engine where
  | scrub
  | executor
  deriving DecidableEq, Repr

/-- The width of a target's register addresses (R71). -/
inductive Width where
  | bits8
  | bits16
  deriving DecidableEq, Repr

/-- The state of an attached target (R71). -/
inductive TargetState where
  | online
  | restoring
  | quarantined
  deriving DecidableEq, Repr

/-- A target record, held by an alias slot that is not FREE (R71). -/
structure Target where
  port : PortId
  busAddr : BitVec 7
  width : Width
  state : TargetState
  failures : Nat
  marker : Option Half
  restorer : Option Engine
  deriving DecidableEq, Repr

/-! ### Ports (chapter Downstream Ports) -/

/-- What a port reports for a requested transaction (R94). DONE carries the value a READ received;
it means nothing for a PROBE or a WRITE. -/
inductive BusOutcome where
  | done (received : Byte)
  | noResponse
  | dataRefused
  | busTimeout
  | portDown
  | withheld
  deriving DecidableEq, Repr

/-- The form of a transaction with what it sends (R88, R89). -/
inductive Form where
  | probe
  | read (addr : Half) (width : Width)
  | write (addr : Half) (width : Width) (data : Byte)
  deriving DecidableEq, Repr

/-- Speed and STRETCH_LIMIT as the port read them when it began a transaction or a round (R90). -/
structure BusTiming where
  speed : Byte
  stretchLimit : Byte
  deriving DecidableEq, Repr

/-- How far a BUSY port has got: its start check may still be under way, or a start check that
waited for a low line has made the start condition (R91). -/
inductive FlightPhase where
  | startCheck
  | started
  deriving DecidableEq, Repr

/-- A transaction in flight (R87, R89). `discarded`: an Interface Reset took its requester away, so
its outcome is delivered to no engine (R104). -/
structure Flight where
  requester : Engine
  form : Form
  aliasNo : Fin 16
  busAddr : BitVec 7
  timing : BusTiming
  phase : FlightPhase
  discarded : Bool
  deriving DecidableEq, Repr

/-- A request placed with a port (R87, R98). What it asks for is formed at grant from the state of
the engine that placed it (R89). -/
inductive Request where
  | scrub
  | executor
  | portReset
  deriving DecidableEq, Repr

/-- Why recovery rounds run (R87). -/
inductive RecoveryOrigin where
  | timeout
  | command
  deriving DecidableEq, Repr

/-- The two recovery rounds (R87). -/
inductive Round where
  | first
  | second
  deriving DecidableEq, Repr

/-- Recovery progress (R87), with the timing read when the round began (R90). `discarded`: the
PORT_RESET that asked for the rounds was abandoned by an Interface Reset (R104). -/
structure Recovery where
  round : Round
  origin : RecoveryOrigin
  timing : BusTiming
  discarded : Bool
  deriving DecidableEq, Repr

/-- The four states of a port (R87). -/
inductive PortState where
  | idle
  | busy
  | recovering
  | down
  deriving DecidableEq, Repr

/-- A port (R87). `waiting` is in arrival order. -/
structure Port where
  state : PortState
  flight : Option Flight
  waiting : List Request
  passedOver : Nat
  recovery : Option Recovery
  deriving DecidableEq, Repr

/-! ### Restores, repairs and the Scrub Engine -/

/-- The phase of a restore (R58). -/
inductive RestorePhase where
  | general
  | marker
  deriving DecidableEq, Repr

/-- What a restore step is requesting (R60). -/
inductive RestoreStage where
  | baseRead
  | write
  deriving DecidableEq, Repr

/-- Restore progress (R58). `step` is the key of the entry the step under way writes; `stage` is
what that step has requested (R60). -/
structure RestoreProgress where
  aliasNo : Fin 16
  phase : RestorePhase
  lastWritten : Option Key
  written : Nat
  failedWrites : Nat
  firstFailure : Option BusOutcome
  base : Option Byte
  step : Option Key
  stage : RestoreStage
  deriving DecidableEq, Repr

/-- The step a repair attempt, an UPDATE or a DEFINE with APPLY has reached (R51, R127). -/
inductive WriteStep where
  | baseRead
  | write
  | verifyRead
  deriving DecidableEq, Repr

/-- What the Scrub Engine holds while a repair runs (R51). -/
structure Repair where
  base : Option Byte
  step : WriteStep
  deriving DecidableEq, Repr

/-- The eight states of the Scrub Engine (R23). -/
inductive ScrubState where
  | idle
  | pacing
  | readWait
  | repairWait
  | verifyWait
  | restore
  | held
  | quiet
  deriving DecidableEq, Repr

/-- The Scrub Engine (R23, R51) and the Pacing Timer (R31). `cursor = none` is "start". `timer` is
`some n` while the timer runs, n being the SCRUB_INTERVAL it was started with. -/
structure ScrubEngine where
  state : ScrubState
  cursor : Option Key
  current : Option Key
  stale : Bool
  stopRequested : Bool
  passCount : Half
  repair : Option Repair
  restore : Option RestoreProgress
  timer : Option Byte
  deriving DecidableEq, Repr

/-! ### The Command Executor and the queues -/

/-- The progress of a VERIFY (R134). `reading` is the key of the entry whose READ is outstanding. -/
structure VerifyProgress where
  lastRead : Option Key
  read : Nat
  mismatches : Nat
  firstFailure : Option BusOutcome
  reading : Option Key
  deriving DecidableEq, Repr

/-- The progress of the executor's current command (R116). -/
inductive Progress where
  | probe                                             -- ATTACH (R123)
  | direct                                            -- READ, WRITE (R131, R132)
  | apply (step : WriteStep) (base : Option Byte)     -- UPDATE, DEFINE with APPLY (R127, R129)
  | verify (v : VerifyProgress)                       -- VERIFY (R134)
  | restore (p : RestoreProgress) (turned : Bool)     -- RESTORE, or VERIFY turned restore (R65, R66)
  | portReset                                         -- PORT_RESET (R138)
  deriving DecidableEq, Repr

/-- The executor's current command: the record taken from the queue and its progress (R116). -/
structure Command where
  staged : Staged
  progress : Progress
  deriving DecidableEq, Repr

/-- The twenty completion statuses, in the order of their codes (R147, R183). -/
inductive Status where
  | ok
  | restored
  | unknownKind
  | badArgument
  | noTarget
  | inUse
  | addressClash
  | notEmpty
  | duplicate
  | noEntry
  | tableFull
  | markerTaken
  | imaged
  | quarantined
  | busyTarget
  | noResponse
  | dataRefused
  | busTimeout
  | portDown
  | verifyMismatch
  deriving DecidableEq, Repr

/-- A completion record (R143). -/
structure Completion where
  tag : Byte
  kind : Byte
  status : Status
  aliasNo : Byte
  addr : Half
  value : Byte
  expected : Byte
  mask : Byte
  detail : Byte
  count : Half
  deriving DecidableEq, Repr

/-- The eleven kinds of drift record (R156). -/
inductive DriftKind where
  | mismatch
  | cleared
  | repaired
  | repairFailed
  | targetReset
  | restoreDone
  | restoreAbandoned
  | quarantined
  | portDown
  | portUp
  | tableFault
  deriving DecidableEq, Repr

/-- A drift record; a field its kind does not carry is absent (R155, R156). -/
structure DriftRecord where
  sequence : Half
  kind : DriftKind
  who : Option Byte          -- alias, or port number
  addr : Option Half
  expected : Option Byte
  observed : Option Byte
  pass : Half
  deriving DecidableEq, Repr

/-- The Drift Log (R154). -/
structure DriftLog where
  records : List DriftRecord
  nextSequence : Half
  deriving DecidableEq, Repr

/-! ### Host-facing state -/

/-- The section flags that are state of their own: ISSUE.Busy (a submission waits, R168),
ISSUE.Done, SCRUB.Done (R172) and the four Disable flags, bit n for section n (R174, R184). -/
structure Sections where
  issueBusy : Bool
  issueDone : Bool
  scrubDone : Bool
  disable : BitVec 4
  deriving DecidableEq, Repr

/-- The seven settings, as the bytes SET stores (R136). -/
structure Settings where
  scrubMode : Byte
  scrubInterval : Byte
  failThreshold : Byte
  repairLimit : Byte
  stretchLimit : Byte
  port0Speed : Byte
  port1Speed : Byte
  deriving DecidableEq, Repr

/-- The whole state of the CI418. `choices` is the model's own field: it counts the choices of
order taken from `Config.freeChoice`. `pending` is the model's queue of commands and events that
wait to be taken, first in, first out (log 10). -/
structure State where
  image : Image
  targets : Vector (Option Target) 16
  scrub : ScrubEngine
  command : Option Command
  port0 : Port
  port1 : Port
  queue : List Staged
  completions : List Completion
  log : DriftLog
  staging : Staged
  sections : Sections
  settings : Settings
  quiet : Bool
  resetnLow : Bool
  choices : Nat
  pending : List Instr
  deriving DecidableEq, Repr

/-- No command and no event of the CI418 stops the part: every rule of the spec ends in a state, so
there is no fault to raise (log 15). The type has no constructor (safe: nothing can be stopped by it). -/
inductive Fault where
  deriving DecidableEq, Repr

/-- Refusals. -/
inductive Refusal where
  /-- Raised by `exec` alone, for a row whose meaning is not written yet; no row is left so. Safe:
  the machine stops where the hardware goes on. -/
  | notModelled (mnemonic : String)
  deriving DecidableEq, Repr

/-! ### Hardware reset -/

/-- All nine staging bytes are 0 at hardware reset (R114, R181). -/
def stagedZero : Staged :=
  { kind := 0
    body := { tag := 0, aliasNo := 0, raddrH := 0, raddrL := 0,
              value := 0, mask := 0, option := 0, rstval := 0 } }

/-- A port at hardware reset (R87). -/
def Port.reset : Port :=
  { state := .idle, flight := none, waiting := [], passedOver := 0, recovery := none }

/-- The Scrub Engine at hardware reset (R24). -/
def ScrubEngine.reset : ScrubEngine :=
  { state := .idle, cursor := none, current := none, stale := false, stopRequested := false,
    passCount := 0, repair := none, restore := none, timer := none }

/-- The Image Table at hardware reset (R21, R105). -/
def Image.reset : Image :=
  { entries := [], signature := 0xFFFF, reference := none, tableFault := false, checks := 0 }

/-- The settings at hardware reset (R136). -/
def Settings.reset : Settings :=
  { scrubMode := 0, scrubInterval := 10, failThreshold := 4, repairLimit := 3, stretchLimit := 8,
    port0Speed := 0, port1Speed := 0 }

/-- The flags at hardware reset: every Busy and Done 0, every Disable 1 (R166). -/
def Sections.reset : Sections :=
  { issueBusy := false, issueDone := false, scrubDone := false, disable := 0xF }

/-- The part right after reset, with RESETn high again: R21 (image), R71 (targets), R24 (scrub),
R116 (executor), R87 (ports), R114 (queue, staging), R142 (completions), R154 (log), R166 (flags),
R136 (settings). DESIGN CHOICE: the QUIET input is released and RESETn is high (log 1, 2);
`choices` starts at 0 (log 3). -/
def State.reset : State :=
  { image := Image.reset
    targets := Vector.replicate 16 none
    scrub := ScrubEngine.reset
    command := none
    port0 := Port.reset
    port1 := Port.reset
    queue := []
    completions := []
    log := { records := [], nextSequence := 0 }
    staging := stagedZero
    sections := Sections.reset
    settings := Settings.reset
    quiet := false
    resetnLow := false
    choices := 0
    pending := [] }

end Machine
end Sys2Proof
end

