-- ==== Sys2Proof/Machine/Operands.lean ====
section
/-! DEFINITION. The fields of a staged command and the other places where bits of a byte have a
meaning: byte halves, KIND codes, OPTION layouts (R182), setting codes and ranges (R136). -/

namespace Sys2Proof
namespace Machine

/-! ### Halves, bytes and numbers -/

/-- The high byte of a 16-bit quantity (00_scope, Numbers). -/
def highByte (h : Half) : Byte := h.extractLsb' 8 8

/-- The low byte of a 16-bit quantity. -/
def lowByte (h : Half) : Byte := h.extractLsb' 0 8

/-- The 16-bit quantity of two bytes, high byte first. -/
def joinBytes (high low : Byte) : Half := high ++ low

/-- A count shown in a byte that holds at 255 (R3, R63, R65, R134). -/
def byteHeld (n : Nat) : Byte := BitVec.ofNat 8 (min n 255)

/-- A count shown in the two bytes of a completion record (R143). -/
def halfCount (n : Nat) : Half := BitVec.ofNat 16 n

/-- One bit of a layout, at place `i`. -/
def bitAt (b : Bool) (i : Nat) : Byte := if b then BitVec.twoPow 8 i else 0

/-! ### Alias and register address -/

/-- ALIAS is in the range 0–15 (R119). -/
def aliasInRange (b : CmdBytes) : Bool := b.aliasNo.toNat < 16

/-- The slot that ALIAS names; it is used only where ALIAS is in range (R119). -/
def slotOf (b : CmdBytes) : Fin 16 := Fin.ofNat 16 b.aliasNo.toNat

/-- The 16-bit register address formed from RADDR_H and RADDR_L (R119). -/
def addrOf (b : CmdBytes) : Half := joinBytes b.raddrH b.raddrL

/-- The key that ALIAS and the register address form (R1). -/
def keyOf (b : CmdBytes) : Key := { aliasNo := slotOf b, addr := addrOf b }

/-- The alias as the byte that records and the signature carry. -/
def aliasByte (a : Fin 16) : Byte := BitVec.ofNat 8 a.val

/-! ### Command kinds (R182) -/

/-- The fifteen assigned kinds (R118, R182). -/
inductive CommandKind where
  | attach
  | detach
  | release
  | queryTarget
  | define
  | update
  | retire
  | queryEntry
  | read
  | write
  | restore
  | verify
  | set
  | commit
  | portReset
  deriving DecidableEq, Repr

/-- The KIND code of a command (R182). -/
def kindCode : CommandKind → Byte
  | .attach => 0x11
  | .detach => 0x12
  | .release => 0x13
  | .queryTarget => 0x14
  | .define => 0x21
  | .update => 0x22
  | .retire => 0x23
  | .queryEntry => 0x24
  | .read => 0x31
  | .write => 0x32
  | .restore => 0x41
  | .verify => 0x42
  | .set => 0x51
  | .commit => 0x52
  | .portReset => 0x53

/-- Every assigned kind, in the order of the table of R182. -/
def allKinds : List CommandKind :=
  [.attach, .detach, .release, .queryTarget, .define, .update, .retire, .queryEntry,
   .read, .write, .restore, .verify, .set, .commit, .portReset]

/-- The command that a KIND byte selects, or none for an unassigned one (R182). -/
def kindOf (k : Byte) : Option CommandKind := allKinds.find? (fun c => kindCode c == k)

/-! ### OPTION layouts (R182) -/

/-- ATTACH, bits 1–0: the port; 2 and 3 are unassigned. -/
def optionPort (o : Byte) : Option PortId :=
  match (o.extractLsb' 0 2).toNat with
  | 0 => some .p0
  | 1 => some .p1
  | _ => none

/-- ATTACH, bits 5–4: the register-address width; 0 and 3 are unassigned. -/
def optionWidth (o : Byte) : Option Width :=
  match (o.extractLsb' 4 2).toNat with
  | 1 => some .bits8
  | 2 => some .bits16
  | _ => none

/-- DEFINE, bits 2–0: the class; 0, 5, 6 and 7 are unassigned. -/
def optionClass (o : Byte) : Option EntryClass :=
  match (o.extractLsb' 0 3).toNat with
  | 1 => some .watch
  | 2 => some .hold
  | 3 => some .restoreOnly
  | 4 => some .marker
  | _ => none

/-- DEFINE, bit 4: the halt indication. -/
def optionHalt (o : Byte) : Bool := o.getLsbD 4

/-- DEFINE, bit 5: APPLY. -/
def optionApply (o : Byte) : Bool := o.getLsbD 5

/-- The option of QUERY_ENTRY. -/
inductive QueryOption where
  | exact
  | next
  deriving DecidableEq, Repr

/-- QUERY_ENTRY, bits 1–0; 0 and 3 are unassigned. -/
def optionQuery (o : Byte) : Option QueryOption :=
  match (o.extractLsb' 0 2).toNat with
  | 1 => some .exact
  | 2 => some .next
  | _ => none

/-- The option of COMMIT. -/
inductive CommitOption where
  | set
  | clear
  deriving DecidableEq, Repr

/-- COMMIT, bits 1–0; 0 and 3 are unassigned. -/
def optionCommit (o : Byte) : Option CommitOption :=
  match (o.extractLsb' 0 2).toNat with
  | 1 => some .set
  | 2 => some .clear
  | _ => none

/-- VALUE as a port number, 0 or 1 (R119, PORT_RESET). -/
def portNumber (v : Byte) : Option PortId :=
  match v.toNat with
  | 0 => some .p0
  | 1 => some .p1
  | _ => none

/-- The number of a port, as records carry it (R146, R155). -/
def portByte : PortId → Byte
  | .p0 => 0
  | .p1 => 1

/-- VALUE as a bus address is in the range 0x08–0x77 (R119). -/
def busAddrInRange (v : Byte) : Bool := 0x08 ≤ v.toNat && v.toNat ≤ 0x77

/-- The 7-bit bus address in VALUE. -/
def busAddrOf (v : Byte) : BitVec 7 := v.extractLsb' 0 7

/-! ### Settings (R136) -/

/-- The seven settings. -/
inductive SettingCode where
  | scrubMode
  | scrubInterval
  | failThreshold
  | repairLimit
  | stretchLimit
  | port0Speed
  | port1Speed
  deriving DecidableEq, Repr

/-- The setting that a code 1–7 names (R136). -/
def settingOf (code : Byte) : Option SettingCode :=
  match code.toNat with
  | 1 => some .scrubMode
  | 2 => some .scrubInterval
  | 3 => some .failThreshold
  | 4 => some .repairLimit
  | 5 => some .stretchLimit
  | 6 => some .port0Speed
  | 7 => some .port1Speed
  | _ => none

/-- The lowest and the highest value of a setting (R136). -/
def settingRange : SettingCode → Nat × Nat
  | .scrubMode => (0, 1)
  | .scrubInterval => (0, 255)
  | .failThreshold => (1, 15)
  | .repairLimit => (1, 7)
  | .stretchLimit => (1, 15)
  | .port0Speed => (0, 1)
  | .port1Speed => (0, 1)

/-- A value is in the range of its setting (R136). -/
def settingInRange (c : SettingCode) (v : Byte) : Bool :=
  (settingRange c).1 ≤ v.toNat && v.toNat ≤ (settingRange c).2

/-- The value a setting holds. -/
def Settings.get (s : Settings) : SettingCode → Byte
  | .scrubMode => s.scrubMode
  | .scrubInterval => s.scrubInterval
  | .failThreshold => s.failThreshold
  | .repairLimit => s.repairLimit
  | .stretchLimit => s.stretchLimit
  | .port0Speed => s.port0Speed
  | .port1Speed => s.port1Speed

/-- The settings with one of them replaced. -/
def Settings.put (s : Settings) (c : SettingCode) (v : Byte) : Settings :=
  match c with
  | .scrubMode => { s with scrubMode := v }
  | .scrubInterval => { s with scrubInterval := v }
  | .failThreshold => { s with failThreshold := v }
  | .repairLimit => { s with repairLimit := v }
  | .stretchLimit => { s with stretchLimit := v }
  | .port0Speed => { s with port0Speed := v }
  | .port1Speed => { s with port1Speed := v }

/-- SCRUB_MODE 1 is continuous, 0 single (R29, R136). -/
def Settings.continuous (s : Settings) : Bool := s.scrubMode == 1

/-! ### Ranges of the fields each kind uses (R119) -/

/-- Validation step 2: every field the kind uses is within its range. Fields a kind does not use,
and bits its OPTION layout does not assign, are ignored (R119). -/
def fieldsInRange (k : CommandKind) (b : CmdBytes) : Bool :=
  match k with
  | .attach =>
    aliasInRange b && busAddrInRange b.value &&
      (optionPort b.option).isSome && (optionWidth b.option).isSome
  | .define => aliasInRange b && b.mask != 0 && (optionClass b.option).isSome
  | .queryEntry => aliasInRange b && (optionQuery b.option).isSome
  | .commit => (optionCommit b.option).isSome
  | .portReset => (portNumber b.value).isSome
  | .set =>
    match settingOf b.aliasNo with
    | some c => settingInRange c b.value
    | none => false
  | _ => aliasInRange b

/-- The kinds that name an attached target (validation step 3, R118). -/
def needsTarget : CommandKind → Bool
  | .detach | .define | .update | .retire | .read | .write | .restore | .verify | .release
  | .queryTarget => true
  | .attach | .queryEntry | .set | .commit | .portReset => false

/-- The kinds refused on a QUARANTINED target (validation step 4, R118). -/
def refusesQuarantined : CommandKind → Bool
  | .define | .update | .retire | .read | .write | .restore | .verify => true
  | .attach | .detach | .release | .queryTarget | .queryEntry | .set | .commit | .portReset => false

/-- The kinds refused while the target's restorer is present (validation step 5, R118). -/
def refusesRestorer : CommandKind → Bool
  | .detach | .restore | .verify => true
  | .attach | .release | .queryTarget | .define | .update | .retire | .queryEntry | .read | .write
  | .set | .commit | .portReset => false

/-- The staging bytes with one of them replaced (R181). -/
def stagedPut (s : Staged) (w : StagingByte) (v : Byte) : Staged :=
  match w with
  | .kind => { s with kind := v }
  | .tag => { s with body := { s.body with tag := v } }
  | .aliasNo => { s with body := { s.body with aliasNo := v } }
  | .raddrH => { s with body := { s.body with raddrH := v } }
  | .raddrL => { s with body := { s.body with raddrL := v } }
  | .value => { s with body := { s.body with value := v } }
  | .mask => { s with body := { s.body with mask := v } }
  | .option => { s with body := { s.body with option := v } }
  | .rstval => { s with body := { s.body with rstval := v } }

end Machine
end Sys2Proof
end

