-- ==== Sys2Proof/Machine/Signature.lean ====
section
/-! DEFINITION. The signature the Image Table keeps over its contents (R106, R107). -/

namespace Sys2Proof
namespace Machine

/-- The class code, in the signature, in OPTION and in the entry detail (R107, R182, R186). -/
def classCode : EntryClass → Byte
  | .watch => 0x01
  | .hold => 0x02
  | .restoreOnly => 0x03
  | .marker => 0x04

/-- One bit of the check register's computation: the input bit is compared with the top bit, the
register moves up one place, and 0x1021 is combined in when the two differed (R106). -/
def crcBit (reg : Half) (input : Bool) : Half :=
  if reg.getLsbD 15 == input then reg <<< 1 else (reg <<< 1) ^^^ 0x1021

/-- One byte, most significant bit first (R106). -/
def crcByte (reg : Half) (b : Byte) : Half :=
  [7, 6, 5, 4, 3, 2, 1, 0].foldl (fun r i => crcBit r (b.getLsbD i)) reg

/-- The six bytes an entry contributes (R107). -/
def entryBytes (e : Entry) : List Byte :=
  [aliasByte e.key.aliasNo, highByte e.key.addr, lowByte e.key.addr, e.expected, e.mask,
   classCode e.cls]

/-- The bytes of the image, in the order of the table (R107). -/
def imageBytes (es : List Entry) : List Byte := es.flatMap entryBytes

/-- The signature of a list of entries: the check register starts at 0xFFFF and is neither inverted
nor reflected at the end (R106). -/
def signatureOf (es : List Entry) : Half := (imageBytes es).foldl crcByte 0xFFFF

end Machine
end Sys2Proof
end

