-- ==== Sys2Proof/Machine/Ops.lean ====
section
/-! DEFINITION. The shared operations over the state: ports by number, the Drift Log, the Target
Table, the Image Table, the Completion Queue and the Pacing Timer. Every meaning is written over
these. -/

namespace Sys2Proof
namespace Machine

/-! ### Ports by number -/

/-- The port with a number. -/
def State.port (s : State) : PortId → Port
  | .p0 => s.port0
  | .p1 => s.port1

/-- The state with one port replaced. Port 0 and port 1 share no state (R87). -/
def State.setPort (s : State) (p : PortId) (x : Port) : State :=
  match p with
  | .p0 => { s with port0 := x }
  | .p1 => { s with port1 := x }

/-! ### The Drift Log (R154 to R160) -/

/-- The log takes a created record as one event: the record takes the next sequence number, and
joins the tail, or is lost if the log holds 32 records (R160). It carries the pass count in force
(R155). -/
def State.logDrift (s : State) (kind : DriftKind) (who : Option Byte) (addr : Option Half)
    (expected observed : Option Byte) : State :=
  let r : DriftRecord :=
    { sequence := s.log.nextSequence, kind := kind, who := who, addr := addr,
      expected := expected, observed := observed, pass := s.scrub.passCount }
  { s with
    log :=
      { records := if s.log.records.length < Config.logCapacity then s.log.records ++ [r]
                   else s.log.records
        nextSequence := s.log.nextSequence + 1 } }

/-- A record of an entry kind, or TARGET_RESET: alias, register address, expected, observed (R156). -/
def State.logEntry (s : State) (kind : DriftKind) (e : Entry) (observed : Byte) : State :=
  s.logDrift kind (some (aliasByte e.key.aliasNo)) (some e.key.addr) (some e.expected)
    (some observed)

/-- A record that carries an alias alone: QUARANTINED and RESTORE_ABANDONED (R156). -/
def State.logAlias (s : State) (kind : DriftKind) (a : Fin 16) : State :=
  s.logDrift kind (some (aliasByte a)) none none none

/-- A record that carries a port number alone: PORT_DOWN and PORT_UP (R156). -/
def State.logPort (s : State) (kind : DriftKind) (p : PortId) : State :=
  s.logDrift kind (some (portByte p)) none none none

/-! ### The Target Table (R71 to R86) -/

/-- The record of an alias slot, or none for a FREE slot (R71). -/
def State.target (s : State) (a : Fin 16) : Option Target := s.targets[a]

/-- The state with an alias slot replaced. -/
def State.setTarget (s : State) (a : Fin 16) (t : Option Target) : State :=
  { s with targets := s.targets.set a t }

/-- The state with an attached target's record changed; a FREE slot stays FREE. -/
def State.modifyTarget (s : State) (a : Fin 16) (f : Target → Target) : State :=
  match s.target a with
  | some t => s.setTarget a (some (f t))
  | none => s

/-- The target is attached and QUARANTINED. -/
def State.isQuarantined (s : State) (a : Fin 16) : Bool :=
  match s.target a with
  | some t => t.state == .quarantined
  | none => false

/-- The target is attached and ONLINE. -/
def State.isOnline (s : State) (a : Fin 16) : Bool :=
  match s.target a with
  | some t => t.state == .online
  | none => false

/-- The target is RESTORING with this engine as restorer (R76). -/
def State.isRestoredBy (s : State) (a : Fin 16) (eng : Engine) : Bool :=
  match s.target a with
  | some t => t.state == .restoring && t.restorer == some eng
  | none => false

/-- The number of attached targets that are QUARANTINED: QCOUNT (R85). -/
def State.quarantineCount (s : State) : Nat :=
  s.targets.toList.countP (fun t => t.any (fun x => x.state == .quarantined))

/-- The record after a counted failure: the count goes up by one, held at 15 (R80). -/
def failedOnce (t : Target) : Target := { t with failures := min (t.failures + 1) 15 }

/-- The Target Table counts a failure: at FAIL_THRESHOLD, as it stands now, an ONLINE or RESTORING
target becomes QUARANTINED, its restorer kept, and a QUARANTINED record is created (R80, R81). -/
def State.countFailure (s : State) (a : Fin 16) (t : Target) : State :=
  let t' := failedOnce t
  if t.state != .quarantined && s.settings.failThreshold.toNat ≤ t'.failures then
    (s.setTarget a (some { t' with state := .quarantined })).logAlias .quarantined a
  else
    s.setTarget a (some t')

/-- An outcome report: counted only if the alias's slot holds a record with the port and the bus
address of the report (R79), by the table of R80. WITHHELD is not counted. -/
def State.report (s : State) (a : Fin 16) (p : PortId) (busAddr : BitVec 7) (o : BusOutcome) :
    State :=
  match s.target a with
  | none => s
  | some t =>
    if t.port = p ∧ t.busAddr = busAddr then
      match o with
      | .done _ => s.setTarget a (some { t with failures := 0 })
      | .withheld => s
      | .noResponse | .dataRefused | .busTimeout | .portDown => s.countFailure a t
    else s

/-- The report of an answer that was given without a grant, at a DOWN port (R97): no transaction
was formed, so the report carries the port that answered and the bus address the slot holds.
DEDUCED (log 7). -/
def State.reportUngranted (s : State) (a : Fin 16) (p : PortId) (o : BusOutcome) : State :=
  match s.target a with
  | some t => s.report a p t.busAddr o
  | none => s

/-! ### The Image Table (R1 to R22) -/

/-- The place of a key in key order: by alias, then by register address (R1). -/
def keyRank (k : Key) : Nat := k.aliasNo.val * 65536 + k.addr.toNat

/-- A key lies above the cursor; every key lies above "start" (R25). -/
def keyAbove (cursor : Option Key) (k : Key) : Bool :=
  match cursor with
  | none => true
  | some c => keyRank c < keyRank k

/-- The entry with a key. -/
def State.entry (s : State) (k : Key) : Option Entry := s.image.entries.find? (·.key == k)

/-- The entry with the lowest key above the cursor among those wanted (R20, R25, R59, R134). -/
def State.nextEntry (s : State) (cursor : Option Key) (want : Entry → Bool) : Option Entry :=
  s.image.entries.find? (fun e => keyAbove cursor e.key && want e)

/-- The entries of an alias. -/
def State.entriesOf (s : State) (a : Fin 16) : List Entry :=
  s.image.entries.filter (fun e => e.key.aliasNo == a)

/-- A list of entries with one more in key order (R1, R9). -/
def insertEntry (e : Entry) : List Entry → List Entry
  | [] => [e]
  | x :: xs => if keyRank e.key < keyRank x.key then e :: x :: xs else x :: insertEntry e xs

/-- The state with other entries and the signature recomputed over them (R108). -/
def State.changeImage (s : State) (es : List Entry) : State :=
  { s with image := { s.image with entries := es, signature := signatureOf es } }

/-- A change of what the part knows of one entry: state, attempts, last observed, drift count. The
signature does not cover these and does not move (R108, R109). -/
def State.modifyEntry (s : State) (k : Key) (f : Entry → Entry) : State :=
  { s with
    image := { s.image with
      entries := s.image.entries.map (fun e => if e.key = k then f e else e) } }

/-- A compared entry (R5). -/
def Entry.compared (e : Entry) : Bool := e.cls != .restoreOnly

/-- An entry that the GENERAL phase of a restore writes (R59). -/
def Entry.restored (e : Entry) : Bool := e.cls == .hold || e.cls == .restoreOnly

/-- A read value matches the entry: equal bits under the care mask (R7). -/
def Entry.matchesValue (e : Entry) (v : Byte) : Bool := v &&& e.mask == e.expected &&& e.mask

/-- A read value equals the reset value of a MARKER entry under the mask (R7, R56). -/
def Entry.atResetValue (e : Entry) (v : Byte) : Bool :=
  match e.cls, e.resetValue with
  | .marker, some r => v &&& e.mask == r &&& e.mask
  | _, _ => false

/-- Two values have the same bits under a mask (R6). -/
def sameUnder (mask x y : Byte) : Bool := x &&& mask == y &&& mask

/-- The value written to an entry's register: bits under the mask from expected, the others from
the base; with mask 0xFF the expected value alone (R8). A base is at hand whenever the mask is not
0xFF. -/
def Entry.writeValue (e : Entry) (base : Option Byte) : Byte :=
  if e.mask = 0xFF then e.expected
  else (e.expected &&& e.mask) ||| (base.getD 0 &&& ~~~e.mask)

/-- One more drift, held at 255 (R3, R12). -/
def Entry.drift (e : Entry) : Entry := { e with state := .drifted, drifts := min (e.drifts + 1) 255 }

/-- The Scrub Engine's stale mark is set when the executor changes its current entry (R43). -/
def State.markStale (s : State) (k : Key) : State :=
  if s.scrub.current = some k then { s with scrub := { s.scrub with stale := true } } else s

/-- A compare read that ended DONE and is taken by the Image Table, marker semantics apart (R12). -/
def State.takeCompare (s : State) (e : Entry) (v : Byte) : State :=
  let m := v &&& e.mask
  match e.state with
  | .pending | .repairing => s
  | .unseen | .clean =>
    if e.matchesValue v then
      s.modifyEntry e.key fun x => { x with state := .clean, attempts := 0, lastObserved := some m }
    else
      (s.modifyEntry e.key fun x =>
        Entry.drift { x with attempts := 0, lastObserved := some m }).logEntry .mismatch e m
  | .drifted | .failed =>
    if e.matchesValue v then
      (s.modifyEntry e.key fun x =>
        { x with state := .clean, attempts := 0, lastObserved := some m }).logEntry .cleared e m
    else
      s.modifyEntry e.key fun x => { x with lastObserved := some m }

/-- The verify read of a repair attempt, taken while the entry is REPAIRING (R15). -/
def State.takeRepairVerify (s : State) (e : Entry) (v : Byte) : State :=
  let m := v &&& e.mask
  if e.state != .repairing then s
  else if e.matchesValue v then
    (s.modifyEntry e.key fun x =>
      { x with state := .clean, attempts := 0, lastObserved := some m }).logEntry .repaired e m
  else
    let n := min (e.attempts + 1) 7
    if s.settings.repairLimit.toNat ≤ n then
      (s.modifyEntry e.key fun x =>
        { x with state := .failed, attempts := n, lastObserved := some m }).logEntry .repairFailed e m
    else
      s.modifyEntry e.key fun x => { x with attempts := n, lastObserved := some m }

/-- The verify read of an UPDATE or a DEFINE with APPLY that ended DONE (R11). -/
def State.takeApplyVerify (s : State) (e : Entry) (v : Byte) : State :=
  let m := v &&& e.mask
  if !e.compared then
    s.modifyEntry e.key fun x => { x with lastObserved := some m }
  else if e.matchesValue v then
    s.modifyEntry e.key fun x => { x with state := .clean, attempts := 0, lastObserved := some m }
  else
    (s.modifyEntry e.key fun x => Entry.drift { x with lastObserved := some m }).logEntry .mismatch e m

/-- A compared entry becomes UNSEEN at the failed end of an UPDATE or a DEFINE with APPLY (R11). -/
def State.applyFailed (s : State) (k : Key) : State :=
  s.modifyEntry k fun x => if x.compared then { x with state := .unseen } else x

/-- A REPAIRING entry returns to DRIFTED, all else of it kept (R16). -/
def State.repairingDrifted (s : State) (k : Key) : State :=
  s.modifyEntry k fun x => if x.state = .repairing then { x with state := .drifted } else x

/-- The entry of a restore write becomes UNSEEN; a PENDING entry stays PENDING (R17). -/
def State.restoreWrote (s : State) (k : Key) : State :=
  s.modifyEntry k fun x => if x.state = .pending then x else { x with state := .unseen }

/-! ### Claims on a target (R57, R76) -/

/-- The target becomes RESTORING with this restorer (R76). -/
def State.claimTarget (s : State) (a : Fin 16) (eng : Engine) : State :=
  s.modifyTarget a fun t => { t with state := .restoring, restorer := some eng }

/-- A target reset detection taken as a claim on an ONLINE target: last observed takes the masked
value, the target becomes RESTORING, and a TARGET_RESET record is created (R56, R57, R158). -/
def State.takeDetection (s : State) (e : Entry) (v : Byte) (eng : Engine) : State :=
  let m := v &&& e.mask
  ((s.modifyEntry e.key fun x => { x with lastObserved := some m }).claimTarget
    e.key.aliasNo eng).logEntry .targetReset e m

/-! ### The Scrub Engine's two ends: pacing and IDLE -/

/-- The engine drops its current entry, its base and its restore progress, starts the Pacing Timer
with SCRUB_INTERVAL as it stands, and enters PACING (R31). The stale mark stays (R43). -/
def State.startPacing (s : State) : State :=
  { s with
    scrub := { s.scrub with
      state := .pacing, current := none, repair := none, restore := none,
      timer := some s.settings.scrubInterval } }

/-- The engine enters IDLE: cursor "start", no current entry, marks clear (R28, R29, R32, R36). -/
def State.scrubIdle (s : State) (done : Bool) : State :=
  { s with
    scrub := { s.scrub with
      state := .idle, cursor := none, current := none, stale := false, stopRequested := false,
      repair := none, restore := none, timer := none }
    sections := { s.sections with scrubDone := done } }

/-! ### The Completion Queue (R142 to R149) -/

/-- The record of a command that ended with a status, with every field 0 that its kind does not
fill (R143). -/
def completionOf (c : Staged) (status : Status) : Completion :=
  { tag := c.body.tag, kind := c.kind, status := status, aliasNo := 0, addr := 0, value := 0,
    expected := 0, mask := 0, detail := 0, count := 0 }

/-- The record of a command refused in validation (R144). -/
def refusalOf (c : Staged) (status : Status) : Completion :=
  { completionOf c status with aliasNo := c.body.aliasNo, addr := addrOf c.body }

/-- The end of a command: its reservation becomes its record at the tail, and the executor holds no
current command (R120, R148, R149). -/
def State.finish (s : State) (r : Completion) : State :=
  { s with command := none, completions := s.completions ++ [r] }

/-- The status that a transaction's outcome becomes; DONE lets the command end OK (R121). -/
def statusOf : BusOutcome → Status
  | .done _ => .ok
  | .noResponse => .noResponse
  | .dataRefused => .dataRefused
  | .busTimeout => .busTimeout
  | .portDown => .portDown
  | .withheld => .quarantined

/-- The transaction ended DONE. -/
def BusOutcome.isDone : BusOutcome → Bool
  | .done _ => true
  | _ => false

/-- The first failure recorded: the earlier one stays (R58, R134). -/
def firstOf (earlier : Option BusOutcome) (o : BusOutcome) : Option BusOutcome :=
  match earlier with
  | some f => some f
  | none => some o

/-! ### Detail bytes (R186) -/

/-- The entry detail: state, class, halt, last observed present. -/
def entryDetail (e : Entry) : Byte :=
  let state : Byte :=
    match e.state with
    | .unseen => 0
    | .pending => 1
    | .clean => 2
    | .drifted => 3
    | .repairing => 4
    | .failed => 5
  state ||| (classCode e.cls <<< 3) ||| bitAt e.halt 6 ||| bitAt e.lastObserved.isSome 7

/-- The part of the target detail that an ATTACH reports: port and width (R146, R186). -/
def placeDetail (p : PortId) (w : Width) : Byte :=
  bitAt (p == .p1) 4 ||| bitAt (w == .bits16) 5

/-- The target detail: state, port, width, marker present. -/
def targetDetail (t : Target) : Byte :=
  let state : Byte :=
    match t.state with
    | .online => 1
    | .restoring => 2
    | .quarantined => 3
  state ||| placeDetail t.port t.width ||| bitAt t.marker.isSome 6

/-! ### Requests -/

/-- What an engine's response to an event leaves: the state, and the requests it places (R99), each
with the port it goes to. They arrive at their ports by `State.settle`. -/
abbrev Reaction := State × List (PortId × Request)

/-- A request to the port of an attached target. -/
def State.placeFor (s : State) (a : Fin 16) (r : Request) : List (PortId × Request) :=
  match s.target a with
  | some t => [(t.port, r)]
  | none => []

end Machine
end Sys2Proof
end

