-- ==== Sys2Proof/Machine/Restore.lean ====
section
/-! DEFINITION. The restore walk, made by either engine (R58 to R70). -/

namespace Sys2Proof
namespace Machine

/-- A restore begins (R58). -/
def RestoreProgress.start (a : Fin 16) : RestoreProgress :=
  { aliasNo := a, phase := .general, lastWritten := none, written := 0, failedWrites := 0,
    firstFailure := none, base := none, step := none, stage := .write }

/-- The progress of a restore, held by its restorer: the Scrub Engine's restore progress, or part of
the executor's current command (R58). -/
def State.setRestore (s : State) (eng : Engine) (p : RestoreProgress) : State :=
  match eng with
  | .scrub => { s with scrub := { s.scrub with restore := some p } }
  | .executor =>
    match s.command with
    | some c =>
      let turned := match c.progress with
        | .restore _ t => t
        | _ => false
      { s with command := some { c with progress := .restore p turned } }
    | none => s

/-- The request by which an engine asks for a transaction. -/
def requestOf : Engine → Request
  | .scrub => .scrub
  | .executor => .executor

/-! ### The end of a restore -/

/-- The Scrub Engine's end of its restore: the cursor goes to the highest key of the restored
alias, or stays if the alias has no entry any longer, and pacing starts (R64). -/
def State.endScrubRestore (s : State) (a : Fin 16) : State :=
  let cursor := match (s.entriesOf a).getLast? with
    | some e => some e.key
    | none => s.scrub.cursor
  ({ s with scrub := { s.scrub with cursor := cursor } }).startPacing

/-- The completion record of a RESTORE, or of a VERIFY turned restore, with entries written as the
count and failed writes as the value (R65, R66, R146). -/
def restoreCompletion (c : Staged) (p : RestoreProgress) (status : Status) : Completion :=
  { completionOf c status with
    aliasNo := c.body.aliasNo, value := byteHeld p.failedWrites, count := halfCount p.written }

/-- The status of a restore that ended complete: RESTORED for a VERIFY turned restore, otherwise the
first failure, or OK (R65, R66). -/
def completeStatus (p : RestoreProgress) (turned : Bool) : Status :=
  if turned then .restored
  else match p.firstFailure with
    | some o => statusOf o
    | none => .ok

/-- The executor's end of a restore (R65, R66). -/
def State.endExecutorRestore (s : State) (p : RestoreProgress) (abandoned : Bool) : State :=
  match s.command with
  | some c =>
    let turned := match c.progress with
      | .restore _ t => t
      | _ => false
    s.finish (restoreCompletion c.staged p
      (if abandoned then .quarantined else completeStatus p turned))
  | none => s

/-- The restoring engine's own end (R64, R65, R66). -/
def State.endRestore (s : State) (eng : Engine) (p : RestoreProgress) (abandoned : Bool) : State :=
  match eng with
  | .scrub => s.endScrubRestore p.aliasNo
  | .executor => s.endExecutorRestore p abandoned

/-- A restore ends complete: the target becomes ONLINE with no restorer, then a RESTORE_DONE record
carries the entries written, held at 255 (R63, R78). -/
def State.completeRestore (s : State) (eng : Engine) (p : RestoreProgress) : State :=
  ((s.modifyTarget p.aliasNo fun t => { t with state := .online, restorer := none }).logDrift
    .restoreDone (some (aliasByte p.aliasNo)) none none (some (byteHeld p.written))).endRestore
      eng p false

/-- A restore is abandoned: the restorer becomes absent, the target stays QUARANTINED, and a
RESTORE_ABANDONED record is created (R62, R78). -/
def State.abandonRestore (s : State) (eng : Engine) (p : RestoreProgress) : State :=
  ((s.modifyTarget p.aliasNo fun t => { t with restorer := none }).logAlias .restoreAbandoned
    p.aliasNo).endRestore eng p true

/-! ### The steps -/

/-- A step begins for an entry: a base read first when the mask is not 0xFF, else the write (R60). -/
def State.beginRestoreStep (s : State) (eng : Engine) (p : RestoreProgress) (phase : RestorePhase)
    (e : Entry) : Reaction :=
  let p' : RestoreProgress :=
    { p with
      phase := phase, base := none, step := some e.key,
      stage := if e.mask = 0xFF then .write else .baseRead }
  (s.setRestore eng p', s.placeFor p.aliasNo (requestOf eng))

/-- The MARKER phase begins: the step takes the entry that the Target Table records as the marker;
with no marker the restore ends complete (R59, R63). -/
def State.restoreMarkerPhase (s : State) (eng : Engine) (p : RestoreProgress) : Reaction :=
  let marker := do
    let t ← s.target p.aliasNo
    let addr ← t.marker
    s.entry { aliasNo := p.aliasNo, addr := addr }
  match marker with
  | some e => s.beginRestoreStep eng p .marker e
  | none => (s.completeRestore eng p, [])

/-- The next step of the GENERAL phase: the lowest key above the last key written among the HOLD and
RESTORE_ONLY entries of the alias; when there is none the phase becomes MARKER (R59). -/
def State.restoreNext (s : State) (eng : Engine) (p : RestoreProgress) : Reaction :=
  match s.nextEntry p.lastWritten (fun e => e.key.aliasNo == p.aliasNo && e.restored) with
  | some e => s.beginRestoreStep eng p .general e
  | none => s.restoreMarkerPhase eng p

/-- The restore goes on after a step, or begins. The restoring engine looks at the target first and
abandons the restore if it is QUARANTINED (R61, R62), a withdrawn marker step not excepted. DEDUCED
(log 13). After the marker step it ends complete (R59, R63). -/
def State.restoreGoOn (s : State) (eng : Engine) (p : RestoreProgress) : Reaction :=
  if s.isQuarantined p.aliasNo then (s.abandonRestore eng p, [])
  else match p.phase with
    | .general => s.restoreNext eng p
    | .marker => (s.completeRestore eng p, [])

/-- The progress after a step that ended with an outcome (R60). Failed writes and the first failure
are kept by a restore of the executor only (R58). -/
def RestoreProgress.afterStep (p : RestoreProgress) (eng : Engine) (k : Key) (o : BusOutcome) :
    RestoreProgress :=
  let failed := eng == .executor && !o.isDone
  { p with
    written := p.written + 1
    failedWrites := if failed then p.failedWrites + 1 else p.failedWrites
    firstFailure := if failed then firstOf p.firstFailure o else p.firstFailure
    lastWritten := if p.phase = .general then some k else p.lastWritten
    base := none
    step := none }

/-- A step ends, at its write's outcome or at a base read that did not end DONE: the entry becomes
UNSEEN, the progress advances, and an executor's write of the Scrub Engine's current entry sets the
stale mark (R60). -/
def State.endRestoreStep (s : State) (eng : Engine) (p : RestoreProgress) (k : Key)
    (o : BusOutcome) : Reaction :=
  let s1 := s.restoreWrote k
  let s2 := match eng with
    | .executor => s1.markStale k
    | .scrub => s1
  s2.restoreGoOn eng (p.afterStep eng k o)

/-- The outcome of a restore step's transaction, already reported (R60, R61, R121). After a base
read that ended DONE the executor looks at the target before it places the write (R121); the Scrub
Engine leaves that to the port at grant (R60). -/
def State.restoreOutcome (s : State) (eng : Engine) (p : RestoreProgress) (o : BusOutcome) :
    Reaction :=
  match p.step with
  | none => (s, [])
  | some k =>
    match p.stage, o with
    | .baseRead, .done v =>
      if eng == .executor && s.isQuarantined p.aliasNo then (s.abandonRestore eng p, [])
      else
        (s.setRestore eng { p with base := some v, stage := .write },
          s.placeFor p.aliasNo (requestOf eng))
    | _, _ => s.endRestoreStep eng p k o

/-- A step of the Scrub Engine whose entry a RETIRE has removed ends without a write: in the GENERAL
phase the walk goes on above the step's key, and a marker step ends the restore (R60). -/
def State.skipRestoreStep (s : State) (p : RestoreProgress) (k : Key) : Reaction :=
  let p' : RestoreProgress :=
    { p with
      lastWritten := if p.phase = .general then some k else p.lastWritten, base := none,
      step := none }
  s.restoreGoOn .scrub p'

end Machine
end Sys2Proof
end

