-- ==== Sys2Proof/Machine/Repair.lean ====
section
/-! DEFINITION. The repair sequence of the Scrub Engine (R48, R51 to R55). -/

namespace Sys2Proof
namespace Machine

/-- An abandoned repair: the entry returns from REPAIRING to DRIFTED if it is still REPAIRING, the
base is dropped and pacing starts (R16, R55). -/
def State.abandonRepair (s : State) : State :=
  match s.scrub.current with
  | some k => (s.repairingDrifted k).startPacing
  | none => s.startPacing

/-- The base a repair holds: a full value, or none for mask 0xFF (R51). -/
def repairBase (e : Entry) (v : Option Byte) : Option Byte := if e.mask = 0xFF then none else v

/-- The engine works on a repair step: its state follows from the step (R51). -/
def State.setRepair (s : State) (r : Repair) : State :=
  { s with
    scrub := { s.scrub with
      repair := some r
      state := match r.step with
        | .verifyRead => .verifyWait
        | .baseRead | .write => .repairWait } }

/-- A repair begins: the entry becomes REPAIRING, and the engine requests the write, or a base read
when the mask is not 0xFF and no value is at hand (R14, R48, R51). -/
def State.beginRepair (s : State) (e : Entry) (found : Option Byte) : Reaction :=
  let base := repairBase e found
  let step : WriteStep := if e.mask ≠ 0xFF ∧ base = none then .baseRead else .write
  let s1 := (s.modifyEntry e.key fun x => { x with state := .repairing }).setRepair
    { base := base, step := step }
  (s1, s1.placeFor e.key.aliasNo .scrub)

/-- Before a further request of a repair the engine looks at the entry's target: QUARANTINED, or
RESTORING by the executor, ends the repair (R52). A slot that has become FREE since has no port to
ask either. DEDUCED (log 8). -/
def State.repairBarred (s : State) (a : Fin 16) : Bool :=
  s.isQuarantined a || s.isRestoredBy a .executor || (s.target a).isNone

/-- A repair's base read or write ended, already reported (R53). -/
def State.repairStepOutcome (s : State) (k : Key) (r : Repair) (o : BusOutcome) : Reaction :=
  match r.step, o with
  | .baseRead, .done v =>
    if s.repairBarred k.aliasNo then (s.abandonRepair, [])
    else
      let s1 := s.setRepair { base := some v, step := .write }
      (s1, s1.placeFor k.aliasNo .scrub)
  | .write, .done _ =>
    if s.scrub.stale || s.repairBarred k.aliasNo then (s.abandonRepair, [])
    else
      let s1 := s.setRepair { r with step := .verifyRead }
      (s1, s1.placeFor k.aliasNo .scrub)
  | _, _ => (s.abandonRepair, [])

/-- After a verify result taken by R15 the next step follows from the entry's state: CLEAN or FAILED
ends the repair, a REPAIRING entry goes to the next attempt unless a stop is requested or the target
is not ONLINE (R37, R54). -/
def State.afterRepairVerify (s : State) (k : Key) (v : Byte) : Reaction :=
  match s.entry k with
  | some e =>
    if e.state = .repairing then
      if s.scrub.stopRequested || !s.isOnline k.aliasNo then (s.abandonRepair, [])
      else
        let s1 := s.setRepair { base := repairBase e (some v), step := .write }
        (s1, s1.placeFor k.aliasNo .scrub)
    else (s.startPacing, [])
  | none => (s.startPacing, [])

/-- A repair's verify read ended, already reported (R54). -/
def State.repairVerifyOutcome (s : State) (k : Key) (o : BusOutcome) : Reaction :=
  match o with
  | .done v =>
    if s.scrub.stale || s.isRestoredBy k.aliasNo .executor then (s.abandonRepair, [])
    else match s.entry k with
      | some e => (s.takeRepairVerify e v).afterRepairVerify k v
      | none => (s.abandonRepair, [])
  | _ => (s.abandonRepair, [])

/-- The outcome of a repair transaction, by the step it belongs to (R53, R54). -/
def State.repairOutcome (s : State) (k : Key) (r : Repair) (o : BusOutcome) : Reaction :=
  match r.step with
  | .verifyRead => s.repairVerifyOutcome k o
  | .baseRead | .write => s.repairStepOutcome k r o

end Machine
end Sys2Proof
end

