-- ==== Sys2Proof/Machine/Scrub.lean ====
section
/-! DEFINITION. The Scrub Engine: the search, passes, the self-check, pacing, the scrub read's
result, the hold (R23 to R50, R111). -/

namespace Sys2Proof
namespace Machine

/-- An entry is eligible: compared, its target ONLINE, not PENDING (R25). -/
def State.eligible (s : State) (e : Entry) : Bool :=
  e.compared && s.isOnline e.key.aliasNo && e.state != .pending

/-- Taking an entry: it becomes the current entry, the cursor goes to its key, the stale mark is
cleared, and a scrub read is requested (R26). -/
def State.takeEntry (s : State) (e : Entry) : Reaction :=
  let s1 : State :=
    { s with
      scrub := { s.scrub with
        state := .readWait, cursor := some e.key, current := some e.key, stale := false } }
  (s1, s1.placeFor e.key.aliasNo .scrub)

/-- A pass ends: the pass count goes up by one, the cursor returns to "start", and SCRUB_MODE decides
between IDLE with SCRUB.Done 1 and pacing (R29). -/
def State.endPass (s : State) : State :=
  let s1 : State :=
    { s with scrub := { s.scrub with passCount := s.scrub.passCount + 1, cursor := none } }
  if s1.settings.continuous then s1.startPacing else s1.scrubIdle true

/-- The search: the next eligible entry above the cursor is taken, or the pass ends (R25). -/
def State.search (s : State) : Reaction :=
  match s.nextEntry s.scrub.cursor s.eligible with
  | some e => s.takeEntry e
  | none => (s.endPass, [])

/-- The self-check found a difference: TABLE_FAULT is latched, its record carries the high bytes of
the two signatures, and the engine stops with SCRUB.Done 1 (R28, R111). -/
def State.tableFaultStop (s : State) (ref : Half) : State :=
  (({ s with image := { s.image with tableFault := true } }).logDrift .tableFault none none
    (some (highByte ref)) (some (highByte s.image.signature))).scrubIdle true

/-- A pass starts with the self-check, and the search follows unless it found a difference (R28,
R111). -/
def State.startPass (s : State) : Reaction :=
  match s.image.reference with
  | none => s.search
  | some ref =>
    let s1 : State := { s with image := { s.image with checks := s.image.checks + 1 } }
    if ref = s1.image.signature then s1.search else (s1.tableFaultStop ref, [])

/-- The engine proceeds: a pass start with the cursor at "start", a search above it otherwise (R32,
R33). -/
def State.proceed (s : State) : Reaction :=
  match s.scrub.cursor with
  | none => s.startPass
  | some _ => s.search

/-- The engine enters QUIET, with no current entry and no request (R33). -/
def State.enterQuiet (s : State) : State :=
  { s with scrub := { s.scrub with state := .quiet, current := none, timer := none } }

/-- The Pacing Timer expires while the engine is PACING: stop, QUIET, or proceed (R32). -/
def State.expire (s : State) : Reaction :=
  if s.scrub.stopRequested then (s.scrubIdle false, [])
  else if s.quiet then (s.enterQuiet, [])
  else
    let s1 : State := { s with scrub := { s.scrub with timer := none } }
    s1.proceed

/-- SCRUB START in IDLE (R35). -/
def State.startScrub (s : State) : Reaction :=
  let s1 := s.scrubIdle false
  if s1.quiet then (s1.enterQuiet, []) else s1.startPass

/-- Entering HELD: SCRUB.Done is set, the entry stays current, no pacing (R45). -/
def State.hold (s : State) : State :=
  { s with
    scrub := { s.scrub with state := .held }
    sections := { s.sections with scrubDone := true } }

/-- The engine's next step after a scrub read result was taken, in the order of R41. `v` is the full
value read, the base of a repair begun on it. -/
def State.afterCompare (s : State) (k : Key) (v : Byte) : Reaction :=
  match s.entry k with
  | some e =>
    if s.scrub.stopRequested then (s.startPacing, [])
    else if e.state = .drifted ∧ e.halt then (s.hold, [])
    else if e.cls = .hold ∧ e.state = .drifted ∧ s.isOnline k.aliasNo then
      s.beginRepair e (some v)
    else (s.startPacing, [])
  | none => (s.startPacing, [])

/-- A scrub read found a MARKER at its reset value: an ONLINE target is claimed and the engine enters
RESTORE; otherwise the claim is refused and the result discarded (R42, R57). -/
def State.scrubDetection (s : State) (e : Entry) (v : Byte) : Reaction :=
  if s.isOnline e.key.aliasNo then
    let s1 := s.takeDetection e v .scrub
    let s2 : State := { s1 with scrub := { s1.scrub with state := .restore, current := none } }
    s2.restoreGoOn .scrub (RestoreProgress.start e.key.aliasNo)
  else (s.startPacing, [])

/-- A scrub read ended, already reported (R39, R40, R41, R42). -/
def State.scrubReadOutcome (s : State) (k : Key) (o : BusOutcome) : Reaction :=
  match o with
  | .done v =>
    if s.scrub.stale || s.isRestoredBy k.aliasNo .executor then (s.startPacing, [])
    else match s.entry k with
      | some e =>
        if e.atResetValue v then s.scrubDetection e v
        else (s.takeCompare e v).afterCompare k v
      | none => (s.startPacing, [])
  | _ => (s.startPacing, [])

/-- SCRUB PULSE in HELD: SCRUB.Done becomes 0, and the held entry is repaired if it still may be;
otherwise the engine moves on (R46). -/
def State.pulseHeld (s : State) : Reaction :=
  let s1 : State := { s with sections := { s.sections with scrubDone := false } }
  match s1.scrub.current.bind s1.entry with
  | some e =>
    if !s1.scrub.stale ∧ e.cls = .hold ∧ e.state = .drifted ∧ s1.isOnline e.key.aliasNo then
      s1.beginRepair e none
    else (s1.startPacing, [])
  | none => (s1.startPacing, [])

/-- What the alias of the Scrub Engine's outstanding request is. -/
def State.scrubAlias (s : State) : Option (Fin 16) :=
  match s.scrub.restore with
  | some p => some p.aliasNo
  | none => s.scrub.current.map (·.aliasNo)

/-- An outcome delivered to the Scrub Engine, already reported: it goes to the work the engine has
under way (R39, R40, R53, R54, R60). -/
def State.scrubOutcome (s : State) (o : BusOutcome) : Reaction :=
  match s.scrub.state, s.scrub.current, s.scrub.repair, s.scrub.restore with
  | .readWait, some k, _, _ => s.scrubReadOutcome k o
  | .repairWait, some k, some r, _ => s.repairOutcome k r o
  | .verifyWait, some k, some r, _ => s.repairOutcome k r o
  | .restore, _, _, some p => s.restoreOutcome .scrub p o
  | _, _, _, _ => (s, [])

end Machine
end Sys2Proof
end

