-- ==== Sys2Proof/Machine/Executor.lean ====
section
/-! DEFINITION. The bus work of the Command Executor: what each outcome does to its current command
(R121, R122, R127 to R135). -/

namespace Sys2Proof
namespace Machine

/-- The executor's current command with new progress (R116). -/
def State.setCommand (s : State) (c : Staged) (g : Progress) : State :=
  { s with command := some { staged := c, progress := g } }

/-! ### ATTACH (R72, R123) -/

/-- A new target record (R72). -/
def newTarget (p : PortId) (w : Width) (busAddr : BitVec 7) : Target :=
  { port := p, busAddr := busAddr, width := w, state := .online, failures := 0, marker := none,
    restorer := none }

/-- The port staged with an ATTACH; validation found it assigned (R119). -/
def attachPort (b : CmdBytes) : PortId := (optionPort b.option).getD .p0

/-- The width staged with an ATTACH; validation found it assigned (R119). -/
def attachWidth (b : CmdBytes) : Width := (optionWidth b.option).getD .bits8

/-- The completion record of an ATTACH: bus address, port and width as staged (R146). -/
def attachCompletion (c : Staged) (status : Status) : Completion :=
  { completionOf c status with
    aliasNo := c.body.aliasNo, value := c.body.value,
    detail := placeDetail (attachPort c.body) (attachWidth c.body) }

/-- The probe of an ATTACH ended: DONE fills the slot ONLINE, any other outcome leaves it FREE (R72).
The outcome is not reported (R79). -/
def State.probeOutcome (s : State) (c : Staged) (o : BusOutcome) : State :=
  let s1 := match o with
    | .done _ =>
      s.setTarget (slotOf c.body)
        (some (newTarget (attachPort c.body) (attachWidth c.body) (busAddrOf c.body.value)))
    | _ => s
  s1.finish (attachCompletion c (statusOf o))

/-! ### READ and WRITE (R131, R132) -/

/-- The completion record of a READ: the full value read when it ended DONE (R145). -/
def readCompletion (c : Staged) (o : BusOutcome) : Completion :=
  { completionOf c (statusOf o) with
    aliasNo := c.body.aliasNo, addr := addrOf c.body,
    value := match o with
      | .done v => v
      | _ => 0 }

/-- The completion record of a WRITE: the byte as staged (R145). -/
def writeCompletion (c : Staged) (o : BusOutcome) : Completion :=
  { completionOf c (statusOf o) with
    aliasNo := c.body.aliasNo, addr := addrOf c.body, value := c.body.value }

/-- The one transaction of a READ or a WRITE ended, already reported (R131, R132). -/
def State.directOutcome (s : State) (c : Staged) (o : BusOutcome) : State :=
  if kindOf c.kind = some .write then s.finish (writeCompletion c o)
  else s.finish (readCompletion c o)

/-! ### UPDATE and DEFINE with APPLY (R11, R127, R129) -/

/-- The completion record of a DEFINE or an UPDATE: expected, mask and entry detail as the entry
stands when the record is made, and the masked verify value when the verify read ended DONE
(R145). -/
def entryCompletion (c : Staged) (status : Status) (e : Option Entry) (value : Byte) : Completion :=
  let r := { completionOf c status with
    aliasNo := c.body.aliasNo, addr := addrOf c.body, value := value }
  match e with
  | some e => { r with expected := e.expected, mask := e.mask, detail := entryDetail e }
  | none => r

/-- The command ends before its verify read ended DONE: a compared entry becomes UNSEEN (R11). -/
def State.applyEndsFailed (s : State) (c : Staged) (status : Status) : State :=
  let s1 := s.applyFailed (keyOf c.body)
  s1.finish (entryCompletion c status (s1.entry (keyOf c.body)) 0)

/-- The verify read ended DONE: the entry is set by R11, and the command completes OK or
VERIFY_MISMATCH (R127). -/
def State.applyEndsVerified (s : State) (c : Staged) (v : Byte) : State :=
  match s.entry (keyOf c.body) with
  | some e =>
    let s1 := s.takeApplyVerify e v
    s1.finish (entryCompletion c (if e.matchesValue v then .ok else .verifyMismatch)
      (s1.entry (keyOf c.body)) (v &&& e.mask))
  | none => s.finish (entryCompletion c .ok none 0)

/-- A transaction of an UPDATE or a DEFINE with APPLY ended, already reported. A DONE is used first;
then the executor looks at the target (R121). -/
def State.applyOutcome (s : State) (c : Staged) (step : WriteStep) (base : Option Byte)
    (o : BusOutcome) : Reaction :=
  let a := slotOf c.body
  match o, step with
  | .done v, .verifyRead => (s.applyEndsVerified c v, [])
  | .done v, .baseRead =>
    if s.isQuarantined a then (s.applyEndsFailed c .quarantined, [])
    else (s.setCommand c (.apply .write (some v)), s.placeFor a .executor)
  | .done _, .write =>
    if s.isQuarantined a then (s.applyEndsFailed c .quarantined, [])
    else (s.setCommand c (.apply .verifyRead base), s.placeFor a .executor)
  | _, _ => (s.applyEndsFailed c (statusOf o), [])

/-! ### VERIFY (R134, R135) -/

/-- A VERIFY begins (R134). -/
def VerifyProgress.start : VerifyProgress :=
  { lastRead := none, read := 0, mismatches := 0, firstFailure := none, reading := none }

/-- The end of a VERIFY, with the counts so far (R135, R146). -/
def State.endVerify (s : State) (c : Staged) (v : VerifyProgress) (status : Status) : State :=
  s.finish
    { completionOf c status with
      aliasNo := c.body.aliasNo, value := byteHeld v.mismatches, count := halfCount v.read }

/-- The next step of a VERIFY: the executor looks at the target, then reads the compared entry with
the lowest key above the last key read, or ends (R121, R134, R135). -/
def State.verifyGoOn (s : State) (c : Staged) (v : VerifyProgress) : Reaction :=
  let a := slotOf c.body
  if s.isQuarantined a then (s.endVerify c v .quarantined, [])
  else if s.isRestoredBy a .scrub then (s.endVerify c v .busyTarget, [])
  else match s.nextEntry v.lastRead (fun e => e.key.aliasNo == a && e.compared) with
    | some e =>
      (s.setCommand c (.verify { v with reading := some e.key }), s.placeFor a .executor)
    | none =>
      (s.endVerify c v (match v.firstFailure with
        | some o => statusOf o
        | none => .ok), [])

/-- A VERIFY read found the marker at its reset value: an ONLINE target is claimed and the VERIFY
turns into a restore from its beginning; a refused claim ends it with QUARANTINED or BUSY_TARGET
(R57, R66, R135). -/
def State.verifyDetection (s : State) (c : Staged) (v : VerifyProgress) (e : Entry) (value : Byte) :
    Reaction :=
  if s.isOnline e.key.aliasNo then
    let p := RestoreProgress.start e.key.aliasNo
    ((s.takeDetection e value .executor).setCommand c (.restore p true)).restoreGoOn .executor p
  else if s.isQuarantined e.key.aliasNo then (s.endVerify c v .quarantined, [])
  else (s.endVerify c v .busyTarget, [])

/-- The progress of a VERIFY once a read has ended: the entry counts as read for any outcome but
WITHHELD, a DONE read that does not match counts as a mismatch, held at 255, and the first failure
is kept (R134). -/
def VerifyProgress.after (v : VerifyProgress) (k : Key) (o : BusOutcome) (mismatch : Bool) :
    VerifyProgress :=
  { v with
    lastRead := some k
    read := if o = .withheld then v.read else v.read + 1
    mismatches := if mismatch then min (v.mismatches + 1) 255 else v.mismatches
    firstFailure := if o.isDone then v.firstFailure else firstOf v.firstFailure o
    reading := none }

/-- A read of a VERIFY ended, already reported (R134). -/
def State.verifyOutcome (s : State) (c : Staged) (v : VerifyProgress) (o : BusOutcome) : Reaction :=
  match v.reading with
  | none => (s, [])
  | some k =>
    match o, s.entry k with
    | .done value, some e =>
      if e.atResetValue value then s.verifyDetection c (v.after k o false) e value
      else (s.takeCompare e value).verifyGoOn c (v.after k o (!e.matchesValue value))
    | .withheld, _ => (s.endVerify c (v.after k o false) .quarantined, [])
    | _, _ => s.verifyGoOn c (v.after k o false)

/-! ### PORT_RESET (R138) -/

/-- The rounds of a PORT_RESET ended (R98, R138, R146). -/
def State.endPortReset (s : State) (succeeded : Bool) : State :=
  match s.command with
  | some c =>
    match c.progress with
    | .portReset =>
      s.finish
        { completionOf c.staged (if succeeded then .ok else .portDown) with
          value := c.staged.body.value }
    | _ => s
  | none => s

/-! ### Delivery -/

/-- An outcome delivered to the executor, already reported: it goes to its current command (R121). -/
def State.executorOutcome (s : State) (o : BusOutcome) : Reaction :=
  match s.command with
  | none => (s, [])
  | some c =>
    match c.progress with
    | .probe => (s.probeOutcome c.staged o, [])
    | .direct => (s.directOutcome c.staged o, [])
    | .apply step base => s.applyOutcome c.staged step base o
    | .verify v => s.verifyOutcome c.staged v o
    | .restore p _ => s.restoreOutcome .executor p o
    | .portReset => (s, [])

/-- The executor's outstanding transaction is a PROBE, whose outcome is not reported (R79). -/
def State.probing (s : State) : Bool :=
  match s.command with
  | some c => c.progress == .probe
  | none => false

end Machine
end Sys2Proof
end

