-- ==== Sys2Proof/Machine/Bus.lean ====
section
/-! DEFINITION. What a port puts on its bus and how it reads the answer (R88 to R95), and the
transactions the two engines form at grant (R38, R52, R60, R89, R121). -/

namespace Sys2Proof
namespace Machine

/-! ### The bytes of a transaction (R88) -/

/-- The bytes of the register address: one for an 8-bit target, two for a 16-bit one, high byte
first. -/
def addressBytes : Width → List SentByte
  | .bits8 => [.regLow]
  | .bits16 => [.regHigh, .regLow]

/-- The bytes the port sends, in order (R88). The data byte of a READ is sent by the target. -/
def sentBytes : Form → List SentByte
  | .probe => [.address]
  | .read _ w => .address :: addressBytes w ++ [.readAddress]
  | .write _ w _ => .address :: addressBytes w ++ [.data]

/-- The value of a byte the port sends: an address byte is the 7-bit bus address followed by the
direction bit, 0 for write and 1 for read (R88). -/
def sentValue (busAddr : BitVec 7) : Form → SentByte → Byte
  | _, .address => busAddr ++ (0 : BitVec 1)
  | _, .readAddress => busAddr ++ (1 : BitVec 1)
  | .read addr _, .regHigh => highByte addr
  | .write addr _ _, .regHigh => highByte addr
  | .read addr _, .regLow => lowByte addr
  | .write addr _ _, .regLow => lowByte addr
  | .write _ _ data, .data => data
  | _, _ => 0

/-- The bits of a byte as the port sends them, most significant first (R88). -/
def bitsOfByte (b : Byte) : List Bool := [7, 6, 5, 4, 3, 2, 1, 0].map b.getLsbD

/-- What the port does with its two lines: it pulls a line low or releases it, waits for the SCL it
has released to read high, and reads a line (R88, R93, R95). -/
inductive LineAction where
  | pullScl
  | releaseScl
  | awaitScl
  | pullSda
  | releaseSda
  | readScl
  | readSda
  deriving DecidableEq, Repr

/-- A start condition, made with both lines high (R88). -/
def startCondition : List LineAction := [.pullSda, .pullScl]

/-- A repeated start, made with SCL low after a byte's ninth pulse (R88). -/
def repeatedStart : List LineAction := [.releaseSda, .releaseScl, .awaitScl, .pullSda, .pullScl]

/-- A stop condition: SDA is pulled low with SCL low, SCL is released, then SDA (R88, R93, R95). -/
def stopCondition : List LineAction := [.pullSda, .releaseScl, .awaitScl, .releaseSda]

/-- The pulse of a bit the port sends: SDA takes the bit while SCL is low (R88). -/
def sendPulse (bit : Bool) : List LineAction :=
  [if bit then .releaseSda else .pullSda, .releaseScl, .awaitScl, .pullScl]

/-- A pulse with SDA released, at which the port reads SDA: the acknowledge of a byte it has sent, or
a bit of the byte a target sends (R88). -/
def readPulse : List LineAction := [.releaseSda, .releaseScl, .awaitScl, .readSda, .pullScl]

/-- The port's not-acknowledge: the ninth pulse with SDA released (R88). -/
def refusePulse : List LineAction := [.releaseSda, .releaseScl, .awaitScl, .pullScl]

/-- What goes over the bus in a transaction that ends with a stop condition (R88, R92). `sent` is a
byte the port sends with the ninth pulse that reads its acknowledge, `received` the data byte of a READ
with the not-acknowledge that answers it. -/
inductive BusAction where
  | lines (l : List LineAction)
  | sent (b : SentByte) (value : Byte)
  | received
  deriving DecidableEq, Repr

/-- The line activity of an action: a sent byte goes out most significant bit first, and the receiving
side answers at the ninth pulse; a received byte is read bit by bit and answered with a
not-acknowledge (R88). -/
def BusAction.activity : BusAction → List LineAction
  | .lines l => l
  | .sent _ value => (bitsOfByte value).flatMap sendPulse ++ readPulse
  | .received => (List.replicate 8 readPulse).flatten ++ refusePulse

/-- One byte of a transaction; the address byte with read direction follows a repeated start, and
the byte a target sends follows it (R88). -/
def byteActions (busAddr : BitVec 7) (f : Form) (b : SentByte) : List BusAction :=
  match b with
  | .readAddress => [.lines repeatedStart, .sent b (sentValue busAddr f b)]
  | _ => [.sent b (sentValue busAddr f b)]

/-- The bytes sent up to and with the one not acknowledged (R92). -/
def bytesUntil (f : Form) (refused : Option SentByte) : List SentByte :=
  match refused with
  | some b => (sentBytes f).take ((sentBytes f).idxOf b + 1)
  | none => sentBytes f

/-- The bus activity of a transaction: start condition, the bytes up to the one not acknowledged, the
received byte of a READ that ran to its end, stop condition (R88, R92, R94). -/
def transactionActions (busAddr : BitVec 7) (f : Form) (refused : Option SentByte) :
    List BusAction :=
  let tail : List BusAction := match f, refused with
    | .read _ _, none => [.received]
    | _, _ => []
  .lines startCondition :: (bytesUntil f refused).flatMap (byteActions busAddr f) ++ tail ++
    [.lines stopCondition]

/-- The line activity of a transaction in flight that ends with a stop condition (R88, R92). -/
def Flight.activity (f : Flight) (refused : Option SentByte) : List LineAction :=
  (transactionActions f.busAddr f.form refused).flatMap BusAction.activity

/-- The same cut short where SCL, released by the port for the n-th time (counted from 0), stays low
for STRETCH_LIMIT: the port stops driving both lines and does nothing further (R93, R95). -/
def heldAt : Nat → List LineAction → List LineAction
  | _, [] => []
  | 0, .awaitScl :: _ => [.awaitScl, .releaseSda]
  | n + 1, .awaitScl :: l => .awaitScl :: heldAt n l
  | n, a :: l => a :: heldAt n l

/-- The clock pulses of a transaction that runs to its end: nine for each byte, the READ's received
byte among them (R88). -/
def pulseCount (f : Form) : Nat :=
  9 * ((sentBytes f).length + match f with
    | .read _ _ => 1
    | _ => 0)

/-- The clock pulses of a transaction that a byte not acknowledged ends early (R92). -/
def pulsesUntil (f : Form) (refused : SentByte) : Nat := 9 * ((sentBytes f).idxOf refused + 1)

/-- The bit period in nanoseconds: 10 µs at speed 0, 2.5 µs at speed 1 (R90). -/
def bitPeriod (speed : Byte) : Nat := if speed = 0 then 10000 else 2500

/-- The least time of a transaction in nanoseconds, conditions and stretches apart (R88). -/
def leastTime (f : Form) (speed : Byte) : Nat := pulseCount f * bitPeriod speed

/-- The outcome of a transaction that ended with a stop condition, from the first byte the target
did not acknowledge, if any, and the data byte received (R92). A byte the form does not send cannot
be refused: then the bus has no such end. -/
def endOutcome (f : Form) (refused : Option SentByte) (received : Byte) : Option BusOutcome :=
  match refused with
  | none => some (.done received)
  | some b =>
    if (sentBytes f).contains b then
      match b with
      | .address | .readAddress => some .noResponse
      | .regHigh | .regLow | .data => some .dataRefused
    else none

/-- The clock pulses of step 1 of a recovery round, given what SDA reads at first and after each
pulse: none if it reads high, otherwise up to nine, stopping as soon as it reads high (R95). -/
def recoveryPulses : List Bool → Nat
  | [] => 0
  | sda :: later => if sda then 0 else min 9 (1 + (later.takeWhile (!·)).length)

/-- A clock pulse of step 1 of a recovery round, with SDA released and read after it (R95). -/
def recoveryPulse : List LineAction := [.pullScl, .releaseScl, .awaitScl, .readSda]

/-- The line activity of a recovery round, given what SDA reads at first and after each pulse: SDA is
released and read, the pulses of step 1, the stop condition of step 2, the reading of both lines of step
3 (R95). SCL is pulled low before the stop condition, which is made with SCL low. DEDUCED (log 16). -/
def recoveryActivity (sda : List Bool) : List LineAction :=
  [.releaseSda, .readSda] ++ (List.replicate (recoveryPulses sda) recoveryPulse).flatten ++
    .pullScl :: stopCondition ++ [.readScl, .readSda]

/-- Step 3 of a recovery round: it succeeds if SCL and SDA both read high (R95). -/
def roundSuccess (sclHigh sdaHigh : Bool) : Bool := sclHigh && sdaHigh

/-! ### Timing read at the start (R90) -/

/-- STRETCH_LIMIT in microseconds: 1–15 ms (R90). -/
def stretchMicros (t : BusTiming) : Nat := t.stretchLimit.toNat * 1000

/-- The Pacing Timer's interval in microseconds: SCRUB_INTERVAL × 100 µs (R31). -/
def pacingMicros (interval : Byte) : Nat := interval.toNat * 100

/-- The speed setting of a port. -/
def State.speedOf (s : State) : PortId → Byte
  | .p0 => s.settings.port0Speed
  | .p1 => s.settings.port1Speed

/-- Speed and STRETCH_LIMIT as the port reads them when it begins a start check or a round (R90). -/
def State.busTiming (s : State) (p : PortId) : BusTiming :=
  { speed := s.speedOf p, stretchLimit := s.settings.stretchLimit }

/-! ### Formation at grant (R89, R101) -/

/-- What an engine does with a grant: it forms a transaction, or withdraws its request. -/
inductive GrantAnswer where
  | formed (f : Flight)
  | withdrawn (r : Reaction)

/-- A transaction for an attached target, with the timing of its port. -/
def State.formFor (s : State) (p : PortId) (eng : Engine) (a : Fin 16) (f : Width → Form) :
    Option Flight :=
  (s.target a).map fun t =>
    { requester := eng, form := f t.width, aliasNo := a, busAddr := t.busAddr,
      timing := s.busTiming p, phase := .startCheck, discarded := false }

/-- The answer when the tables give a transaction; without one there is nothing to put on the bus. -/
def State.formedOr (s : State) (f : Option Flight) : GrantAnswer :=
  match f with
  | some x => .formed x
  | none => .withdrawn (s, [])

/-- The transaction of a step of a write with its reads: a READ of the register, or a WRITE of the
merged value formed from the entry as it stands now (R8, R52, R60, R121). -/
def writeStepForm (step : WriteStep) (e : Entry) (base : Option Byte) (w : Width) : Form :=
  match step with
  | .baseRead | .verifyRead => .read e.key.addr w
  | .write => .write e.key.addr w (e.writeValue base)

/-- A scrub read at grant: withdrawn if the stale mark is set or the executor restores the target
(R38). -/
def State.formScrubRead (s : State) (p : PortId) (k : Key) : GrantAnswer :=
  if s.scrub.stale || s.isRestoredBy k.aliasNo .executor then .withdrawn (s.startPacing, [])
  else s.formedOr (s.formFor p .scrub k.aliasNo (fun w => .read k.addr w))

/-- A repair request at grant: withdrawn, and the repair abandoned, if the stale mark is set or the
executor restores the target (R52). -/
def State.formRepair (s : State) (p : PortId) (k : Key) (r : Repair) : GrantAnswer :=
  if s.scrub.stale || s.isRestoredBy k.aliasNo .executor then .withdrawn (s.abandonRepair, [])
  else match s.entry k with
    | some e => s.formedOr (s.formFor p .scrub k.aliasNo (writeStepForm r.step e r.base))
    | none => .withdrawn (s.abandonRepair, [])

/-- What a restore stage asks for. -/
def stageStep : RestoreStage → WriteStep
  | .baseRead => .baseRead
  | .write => .write

/-- A restore step of the Scrub Engine at grant: withdrawn if its entry was retired; turned into a
base read if a write has come to need one; otherwise formed (R60). -/
def State.formScrubRestore (s : State) (p : PortId) (g : RestoreProgress) : GrantAnswer :=
  match g.step with
  | none => .withdrawn (s, [])
  | some k =>
    match s.entry k with
    | none => .withdrawn (s.skipRestoreStep g k)
    | some e =>
      if g.stage = .write ∧ e.mask ≠ 0xFF ∧ g.base = none then
        .withdrawn (s.setRestore .scrub { g with stage := .baseRead }, s.placeFor g.aliasNo .scrub)
      else s.formedOr (s.formFor p .scrub g.aliasNo (writeStepForm (stageStep g.stage) e g.base))

/-- The Scrub Engine at grant (R38, R52, R60). -/
def State.formScrub (s : State) (p : PortId) : GrantAnswer :=
  match s.scrub.state, s.scrub.current, s.scrub.repair, s.scrub.restore with
  | .readWait, some k, _, _ => s.formScrubRead p k
  | .repairWait, some k, some r, _ => s.formRepair p k r
  | .verifyWait, some k, some r, _ => s.formRepair p k r
  | .restore, _, _, some g => s.formScrubRestore p g
  | _, _, _, _ => .withdrawn (s, [])

/-- The transaction of a READ or a WRITE command (R131, R132). -/
def directForm (c : Staged) (w : Width) : Form :=
  if kindOf c.kind = some .write then .write (addrOf c.body) w c.body.value
  else .read (addrOf c.body) w

/-- The PROBE of an ATTACH, whose slot is FREE (R72, R88). -/
def State.formProbe (s : State) (p : PortId) (c : Staged) : Flight :=
  { requester := .executor, form := .probe, aliasNo := slotOf c.body,
    busAddr := busAddrOf c.body.value, timing := s.busTiming p, phase := .startCheck,
    discarded := false }

/-- The transaction the executor's current command asks for, formed from the tables as they stand
at grant (R121). -/
def State.executorFlight (s : State) (p : PortId) : Option Flight :=
  match s.command with
  | none => none
  | some c =>
    let a := slotOf c.staged.body
    match c.progress with
    | .probe => some (s.formProbe p c.staged)
    | .direct => s.formFor p .executor a (directForm c.staged)
    | .apply step base =>
      (s.entry (keyOf c.staged.body)).bind fun e =>
        s.formFor p .executor a (writeStepForm step e base)
    | .verify v => v.reading.bind fun k => s.formFor p .executor a (fun w => .read k.addr w)
    | .restore g _ =>
      (g.step.bind s.entry).bind fun e =>
        s.formFor p .executor g.aliasNo (writeStepForm (stageStep g.stage) e g.base)
    | .portReset => none

/-- The executor at grant; it does not withdraw (R121). -/
def State.formExecutor (s : State) (p : PortId) : GrantAnswer := s.formedOr (s.executorFlight p)

end Machine
end Sys2Proof
end

