-- ==== Sys2Proof/Machine/Arbiter.lean ====
section
/-! DEFINITION. The ports: arrival of a request, the arbiter's grant, the answers of a DOWN port,
recovery rounds, and the settling of all that follows inside one event (R94 to R102). -/

namespace Sys2Proof
namespace Machine

/-! ### Delivery of outcomes -/

/-- A transaction's outcome, or a WITHHELD answer, is delivered to its requester, which reports it
to the Target Table first; the PROBE of an ATTACH is not reported (R79, R94). -/
def State.deliver (s : State) (p : PortId) (f : Flight) (o : BusOutcome) : Reaction :=
  match f.requester with
  | .scrub => (s.report f.aliasNo p f.busAddr o).scrubOutcome o
  | .executor =>
    if f.form = .probe then s.executorOutcome o
    else (s.report f.aliasNo p f.busAddr o).executorOutcome o

/-- A DOWN port answers a request PORT_DOWN at once; the answer is the request's outcome and is
delivered and reported like any other (R97). -/
def State.answerDown (s : State) (p : PortId) (r : Request) : Reaction :=
  match r with
  | .scrub =>
    match s.scrubAlias with
    | some a => (s.reportUngranted a p .portDown).scrubOutcome .portDown
    | none => s.scrubOutcome .portDown
  | .executor =>
    match s.command with
    | some c =>
      if s.probing then s.executorOutcome .portDown
      else (s.reportUngranted (slotOf c.staged.body) p .portDown).executorOutcome .portDown
    | none => (s, [])
  | .portReset => (s, [])

/-! ### Recovery rounds -/

/-- The first round begins, with the timing read now; a DOWN port stays DOWN while rounds run (R90,
R94, R98). -/
def State.startRounds (s : State) (p : PortId) (origin : RecoveryOrigin) : State :=
  let x := s.port p
  s.setPort p
    { x with
      state := if x.state = .down then .down else .recovering
      flight := none
      recovery := some
        { round := .first, origin := origin, timing := s.busTiming p, discarded := false } }

/-! ### Arrival, grant -/

/-- The request joins those that wait at the port, in arrival order (R87, R99). -/
def State.enqueue (s : State) (p : PortId) (r : Request) : State :=
  s.setPort p { s.port p with waiting := (s.port p).waiting ++ [r] }

/-- The arbiter's choice among the waiting requests: the executor's, unless the Scrub Engine's waits
too and has been passed over four times in a row (R99). -/
def Port.choose (x : Port) : Option Request :=
  match x.waiting.find? (· != .scrub), x.waiting.contains .scrub with
  | some r, false => some r
  | some r, true => if Config.passedOverLimit ≤ x.passedOver then some .scrub else some r
  | none, true => some .scrub
  | none, false => none

/-- The port after a grant to the executor: the request leaves, and the passed-over count goes up by
one if a Scrub Engine request waits (R99, R100). -/
def Port.grantExecutor (x : Port) (r : Request) : Port :=
  { x with
    waiting := x.waiting.erase r
    passedOver := if x.waiting.contains .scrub then x.passedOver + 1 else x.passedOver }

/-- The port looks at the target of a formed transaction: QUARANTINED is answered WITHHELD with no
bus activity and the port stays IDLE; otherwise the port enters BUSY and begins its start check
(R101). -/
def State.launch (s : State) (p : PortId) (f : Flight) : Reaction :=
  if s.isQuarantined f.aliasNo then s.deliver p f .withheld
  else (s.setPort p { s.port p with state := .busy, flight := some f }, [])

/-- A grant to the Scrub Engine: a formed transaction sets the passed-over count to 0, a withdrawal
leaves it (R100, R101). -/
def State.grantScrub (s : State) (p : PortId) : Reaction :=
  let x := s.port p
  let s1 := s.setPort p { x with waiting := x.waiting.erase .scrub }
  match s1.formScrub p with
  | .withdrawn r => r
  | .formed f => (s1.setPort p { s1.port p with passedOver := 0 }).launch p f

/-- The arbiter of an IDLE port grants one waiting request (R99, R101). -/
def State.grant (s : State) (p : PortId) : Reaction :=
  match (s.port p).choose with
  | none => (s, [])
  | some .scrub => s.grantScrub p
  | some .portReset =>
    ((s.setPort p ((s.port p).grantExecutor .portReset)).startRounds p .command, [])
  | some .executor =>
    let s1 := s.setPort p ((s.port p).grantExecutor .executor)
    match s1.formExecutor p with
    | .withdrawn r => r
    | .formed f => s1.launch p f

/-- The arbiter of an IDLE port grants; where the grant leaves the port IDLE, by a withdrawal or a
WITHHELD answer, it grants again at once if the other engine's request waits (R99, R101). -/
def State.grants (s : State) (p : PortId) : Reaction :=
  let r := s.grant p
  if (r.1.port p).state = .idle then
    let r2 := r.1.grant p
    (r2.1, r.2 ++ r2.2)
  else r

/-- A request arrives at a port. A DOWN port answers it PORT_DOWN at once, or starts the rounds of a
PORT_RESET; an IDLE port grants; at any other port it waits (R97, R98, R99). With a request of the other
engine waiting at the IDLE port, this is the follow-on that arrives before the port grants (R102). A
PORT_RESET that arrives while the rounds of an abandoned PORT_RESET still run on a DOWN port waits for
their end. DESIGN CHOICE (log 6). -/
def State.arrive (s : State) (p : PortId) (r : Request) : Reaction :=
  match (s.port p).state, r with
  | .down, .portReset =>
    if (s.port p).recovery = none then (s.startRounds p .command, []) else (s.enqueue p r, [])
  | .down, _ => s.answerDown p r
  | .idle, _ => (s.enqueue p r).grants p
  | .busy, _ | .recovering, _ => (s.enqueue p r, [])

/-- The first waiting request, in arrival order, that a DOWN port handles: every request but a
PORT_RESET is answered at once, also while rounds run, and a PORT_RESET starts its rounds once none run
(R97, R98; log 6). -/
def Port.nextAtDown (x : Port) : Option Request :=
  x.waiting.find? fun r => r != .portReset || x.recovery.isNone

/-- A port has something to do with the requests that wait at it: an IDLE port grants one (R99), and a
DOWN port handles those that waited when it went DOWN (R97). -/
def Port.canAct (x : Port) : Bool :=
  match x.state with
  | .idle => !x.waiting.isEmpty
  | .down => x.nextAtDown.isSome
  | .busy | .recovering => false

/-- The port acts on the requests that wait: an IDLE port grants by its arbiter (R99), a DOWN port
handles the next one as one that arrives now (R97). -/
def State.act (s : State) (p : PortId) : Reaction :=
  match (s.port p).state with
  | .idle => s.grants p
  | .down =>
    match (s.port p).nextAtDown with
    | some r => (s.setPort p { s.port p with waiting := (s.port p).waiting.erase r }).arrive p r
    | none => (s, [])
  | .busy | .recovering => (s, [])

/-! ### Settling -/

/-- Which of `n` things that come together is taken first: the only one, or the alternative that the
free value gives for this choice (R97, R99, R102; log 3). -/
def State.pick (s : State) (n : Nat) : Nat × State :=
  if n ≤ 1 then (0, s)
  else (Config.freeChoice s.choices % n, { s with choices := s.choices + 1 })

/-- All that follows inside one event: the requests still on their way (`todo`) arrive and the ports
act on those that wait, one at a time and in any order the spec leaves open (R99, R101, R102), until
nothing is left to do. The first argument bounds the number of these; see `State.bound`. -/
def State.settle : Nat → List (PortId × Request) → State → State
  | 0, _, s => s
  | n + 1, todo, s =>
    let acting := [PortId.p0, PortId.p1].filter fun p => (s.port p).canAct
    if todo.isEmpty && acting.isEmpty then s
    else
      let choice := s.pick (todo.length + acting.length)
      match todo[choice.1]? with
      | some (p, r) =>
        let next := choice.2.arrive p r
        State.settle n (todo.eraseIdx choice.1 ++ next.2) next.1
      | none =>
        match acting[choice.1 - todo.length]? with
        | some p =>
          let next := choice.2.act p
          State.settle n (todo ++ next.2) next.1
        | none => choice.2

/-- Room for every request that can be answered inside one event. A request answered at once either
ends the work of its engine or moves its walk on to a higher key, so each engine places at most one
request for each entry and a few more; each costs at most two steps of `State.settle`. DEDUCED
(log 9). -/
def State.bound (s : State) : Nat := 8 * s.image.entries.length + 64

/-- A response with all that follows from its requests. -/
def settled (r : Reaction) : State := State.settle r.1.bound r.2 r.1

/-! ### Events of the buses -/

/-- The port becomes IDLE with nothing in flight (R94). -/
def State.portIdle (s : State) (p : PortId) : State :=
  s.setPort p { s.port p with state := .idle, flight := none, recovery := none }

/-- The outcome of a transaction in flight reaches its requester, or no engine if an Interface Reset
discarded it (R94, R104). -/
def State.outcomeOf (s : State) (p : PortId) (f : Flight) (o : BusOutcome) : Reaction :=
  if f.discarded then (s, []) else s.deliver p f o

/-- A transaction ended with a stop condition: the outcome is delivered, then the port becomes IDLE
and grants (R94). -/
def State.endTransaction (s : State) (p : PortId) (f : Flight) (o : BusOutcome) : State :=
  let r := s.outcomeOf p f o
  settled (r.1.portIdle p, r.2)

/-- A transaction ended with BUS_TIMEOUT: the outcome is delivered, then the port enters RECOVERING
at round 1 (R94, R96). -/
def State.timeOut (s : State) (p : PortId) (f : Flight) : State :=
  let r := s.outcomeOf p f .busTimeout
  settled (r.1.startRounds p .timeout, r.2)

/-- The executor's PORT_RESET completes when its rounds end, unless an Interface Reset abandoned it
(R98, R104). -/
def State.roundsReported (s : State) (r : Recovery) (succeeded : Bool) : State :=
  if r.origin = .command ∧ r.discarded = false then s.endPortReset succeeded else s

/-- A round succeeded: the port becomes IDLE, with a PORT_UP record if it was DOWN; a PORT_RESET
completes OK; waiting requests are granted (R96, R98). -/
def State.roundSucceeds (s : State) (p : PortId) (r : Recovery) : State :=
  let s1 := s.portIdle p
  let s2 := if (s.port p).state = .down then s1.logPort .portUp p else s1
  settled (s2.roundsReported r true, [])

/-- Round 1 failed: round 2 begins at once, reading speed and STRETCH_LIMIT again (R90, R96). -/
def State.secondRound (s : State) (p : PortId) (r : Recovery) : State :=
  s.setPort p
    { s.port p with recovery := some { r with round := .second, timing := s.busTiming p } }

/-- Round 2 failed: a RECOVERING port enters DOWN, creates its PORT_DOWN record and answers the
requests that waited; a port that was DOWN stays so and creates none; a PORT_RESET completes
PORT_DOWN (R96, R97, R98). -/
def State.roundsFail (s : State) (p : PortId) (r : Recovery) : State :=
  let s1 := s.setPort p { s.port p with state := .down, recovery := none }
  let s2 := if (s.port p).state = .down then s1 else s1.logPort .portDown p
  (settled (s2, [])).roundsReported r false

/-- A recovery round ended (R95, R96, R98). -/
def State.roundEnds (s : State) (p : PortId) (succeeded : Bool) : State :=
  match (s.port p).recovery with
  | none => s
  | some r =>
    if succeeded then s.roundSucceeds p r
    else match r.round with
      | .first => s.secondRound p r
      | .second => s.roundsFail p r

end Machine
end Sys2Proof
end

