-- ==== Sys2Proof/Machine/Commands.lean ====
section
/-! DEFINITION. The Command Executor's take, validation, and the fifteen command kinds (R117 to
R140). -/

namespace Sys2Proof
namespace Machine

/-! ### The take (R117) -/

/-- The take conditions: no current command, a record in the queue, and completion records (the
executor holding no reservation) fewer than 16 (R117). -/
def State.canTake (s : State) : Bool :=
  s.command.isNone && !s.queue.isEmpty && s.completions.length < Config.completionCapacity

/-- The head leaves the queue, and a submission waiting at ISSUE is accepted in the same event (R115,
R117, R169). -/
def State.dequeue (s : State) : State :=
  if s.sections.issueBusy then
    { s with
      queue := s.queue.tail ++ [s.staging]
      sections := { s.sections with issueBusy := false, issueDone := true } }
  else { s with queue := s.queue.tail }

/-- The executor takes the head of the queue if the take conditions hold and the head is this
record, and carries it out. Otherwise no such take comes about. The take is a step of its own, not part
of the event that makes the conditions hold. DESIGN CHOICE (log 5). -/
def State.takeHead (s : State) (c : Staged) (carry : State → Staged → Reaction) : State :=
  if s.canTake ∧ s.queue.head? = some c then settled (carry s.dequeue c) else s

/-! ### Validation (R118, R119) -/

/-- Step 3: the alias is attached, for the kinds that name an attached target. -/
def State.attachedOk (s : State) (k : CommandKind) (a : Fin 16) : Bool :=
  !needsTarget k || (s.target a).isSome

/-- Step 4: the target is not QUARANTINED. -/
def State.quarantineOk (s : State) (k : CommandKind) (a : Fin 16) : Bool :=
  !(refusesQuarantined k && s.isQuarantined a)

/-- Step 5: the target's restorer is absent. -/
def State.restorerOk (s : State) (k : CommandKind) (a : Fin 16) : Bool :=
  !(refusesRestorer k && ((s.target a).bind (·.restorer)).isSome)

/-- Validation steps 2 to 5, in order; the first that fails gives the status (R118). -/
def State.refusal (s : State) (k : CommandKind) (b : CmdBytes) : Option Status :=
  if !fieldsInRange k b then some .badArgument
  else if !s.attachedOk k (slotOf b) then some .noTarget
  else if !s.quarantineOk k (slotOf b) then some .quarantined
  else if !s.restorerOk k (slotOf b) then some .busyTarget
  else none

/-- A refused command changes nothing beyond its completion record (R118, R144). -/
def State.refuse (s : State) (c : Staged) (status : Status) : Reaction :=
  (s.finish (refusalOf c status), [])

/-- A command that passes steps 2 to 5 goes on to its own checks and its work. -/
def State.validated (s : State) (k : CommandKind) (c : Staged) (work : Reaction) : Reaction :=
  match s.refusal k c.body with
  | some status => s.refuse c status
  | none => work

/-- The register address fits the target's width (R126, R131, R132). -/
def addrFits (t : Target) (addr : Half) : Bool := t.width == .bits16 || addr.toNat ≤ 0xFF

/-- The executor starts a command with bus work by placing its first request (R121). -/
def State.startWork (s : State) (c : Staged) (g : Progress) : Reaction :=
  (s.setCommand c g, s.placeFor (slotOf c.body) .executor)

/-! ### Targets: ATTACH, DETACH, RELEASE, QUERY_TARGET -/

/-- An attached target sits at this port and bus address (R73). -/
def State.addressTaken (s : State) (p : PortId) (busAddr : BitVec 7) : Bool :=
  s.targets.toList.any fun t => t.any fun x => x.port == p && x.busAddr == busAddr

/-- ATTACH (R72, R73, R123). -/
def State.beginAttach (s : State) (c : Staged) : Reaction :=
  s.validated .attach c <|
    if (s.target (slotOf c.body)).isSome then s.refuse c .inUse
    else if s.addressTaken (attachPort c.body) (busAddrOf c.body.value) then
      s.refuse c .addressClash
    else (s.setCommand c .probe, [(attachPort c.body, .executor)])

/-- DETACH (R74, R124). -/
def State.beginDetach (s : State) (c : Staged) : Reaction :=
  s.validated .detach c <|
    if !(s.entriesOf (slotOf c.body)).isEmpty then s.refuse c .notEmpty
    else
      ((s.setTarget (slotOf c.body) none).finish
        { completionOf c .ok with aliasNo := c.body.aliasNo }, [])

/-- The Scrub Engine is repairing an entry of the alias (R84, R125). -/
def State.repairing (s : State) (a : Fin 16) : Bool :=
  (s.scrub.state == .repairWait || s.scrub.state == .verifyWait) &&
    s.scrub.current.any (fun k => k.aliasNo == a)

/-- A QUARANTINED target returns to ONLINE with zero failures, and its compared entries become
UNSEEN (R18, R84). -/
def State.releaseTarget (s : State) (a : Fin 16) : State :=
  let s1 := s.modifyTarget a fun t => { t with state := .online, failures := 0 }
  { s1 with
    image := { s1.image with
      entries := s1.image.entries.map fun e =>
        if e.key.aliasNo = a ∧ e.compared then { e with state := .unseen } else e } }

/-- The completion record of a RELEASE: value 1 when the target was returned from QUARANTINED
(R146). -/
def releaseCompletion (c : Staged) (returned : Bool) : Completion :=
  { completionOf c .ok with aliasNo := c.body.aliasNo, value := bitAt returned 0 }

/-- RELEASE (R84, R125). -/
def State.beginRelease (s : State) (c : Staged) : Reaction :=
  s.validated .release c <|
    let a := slotOf c.body
    match s.target a with
    | none => s.refuse c .noTarget
    | some t =>
      if t.state = .quarantined then
        if t.restorer.isSome || s.repairing a then s.refuse c .busyTarget
        else ((s.releaseTarget a).finish (releaseCompletion c true), [])
      else (s.finish (releaseCompletion c false), [])

/-- QUERY_TARGET (R85, R140). -/
def State.beginQueryTarget (s : State) (c : Staged) : Reaction :=
  s.validated .queryTarget c <|
    match s.target (slotOf c.body) with
    | none => s.refuse c .noTarget
    | some t =>
      (s.finish
        { completionOf c .ok with
          aliasNo := c.body.aliasNo
          value := BitVec.ofNat 8 t.busAddr.toNat
          expected := BitVec.ofNat 8 t.failures
          detail := targetDetail t
          count := halfCount (s.entriesOf (slotOf c.body)).length }, [])

/-! ### Entries: DEFINE, UPDATE, RETIRE, QUERY_ENTRY -/

/-- The class staged with a DEFINE; validation found it assigned (R119). -/
def defineClass (b : CmdBytes) : EntryClass := (optionClass b.option).getD .watch

/-- The entry a DEFINE inserts (R3, R4, R9). -/
def newEntry (b : CmdBytes) : Entry :=
  let cls := defineClass b
  { key := keyOf b, expected := b.value, mask := b.mask, cls := cls, halt := optionHalt b.option
    resetValue := if cls = .marker then some b.rstval else none
    state := if optionApply b.option ∧ cls ≠ .restoreOnly then .pending else .unseen
    attempts := 0, lastObserved := none, drifts := 0 }

/-- The step-6 checks of a DEFINE, in order (R126). -/
def State.defineRefusal (s : State) (t : Target) (b : CmdBytes) : Option Status :=
  if !addrFits t (addrOf b) then some .badArgument
  else if (s.entry (keyOf b)).isSome then some .duplicate
  else if Config.imageCapacity ≤ s.image.entries.length then some .tableFull
  else if defineClass b = .marker ∧ t.marker.isSome then some .markerTaken
  else if defineClass b = .marker ∧ sameUnder b.mask b.rstval b.value then some .badArgument
  else none

/-- The insertion of a DEFINE: the entry takes its place in key order, the signature is recomputed,
a MARKER becomes the target's marker, and the stale mark is set if the key is the Scrub Engine's
current entry's (R9, R43, R75, R108). -/
def State.insertNew (s : State) (b : CmdBytes) : State :=
  let e := newEntry b
  let s1 := s.changeImage (insertEntry e s.image.entries)
  let s2 := if e.cls = .marker then
      s1.modifyTarget e.key.aliasNo fun t => { t with marker := some e.key.addr }
    else s1
  s2.markStale e.key

/-- The first request of an UPDATE or of a DEFINE with APPLY: a base read when the mask is not 0xFF,
else the write (R127, R129). -/
def State.startApply (s : State) (c : Staged) (e : Entry) : Reaction :=
  s.startWork c (.apply (if e.mask = 0xFF then .write else .baseRead) none)

/-- DEFINE (R9, R126, R127). -/
def State.beginDefine (s : State) (c : Staged) : Reaction :=
  s.validated .define c <|
    match s.target (slotOf c.body) with
    | none => s.refuse c .noTarget
    | some t =>
      match s.defineRefusal t c.body with
      | some status => s.refuse c status
      | none =>
        let e := newEntry c.body
        let s1 := s.insertNew c.body
        if optionApply c.body.option then s1.startApply c e
        else (s1.finish (entryCompletion c .ok (some e) 0), [])

/-- The entry after an UPDATE is taken (R10). -/
def updatedEntry (e : Entry) (b : CmdBytes) : Entry :=
  { e with
    expected := b.value
    mask := if b.mask = 0 then e.mask else b.mask
    state := if e.compared then .pending else e.state
    attempts := 0
    lastObserved := none }

/-- An UPDATE of a MARKER would make its reset value and its expected value alike under the mask
(R6, R128). -/
def breaksMarker (e : Entry) : Bool :=
  match e.cls, e.resetValue with
  | .marker, some r => sameUnder e.mask r e.expected
  | _, _ => false

/-- The Image Table takes an UPDATE: the entry is replaced and the signature recomputed, and the
stale mark is set if it is the Scrub Engine's current entry (R10, R43, R108). -/
def State.takeUpdate (s : State) (e : Entry) : State :=
  (s.changeImage (s.image.entries.map fun x => if x.key = e.key then e else x)).markStale e.key

/-- UPDATE (R10, R128, R129). -/
def State.beginUpdate (s : State) (c : Staged) : Reaction :=
  s.validated .update c <|
    match s.entry (keyOf c.body) with
    | none => s.refuse c .noEntry
    | some e =>
      let e' := updatedEntry e c.body
      if breaksMarker e' then s.refuse c .badArgument
      else (s.takeUpdate e').startApply c e'

/-- The removal of an entry: it leaves the key order, the signature is recomputed, a MARKER leaves
the Target Table too, and the stale mark is set if it is the Scrub Engine's current entry (R19). -/
def State.removeEntry (s : State) (e : Entry) : State :=
  let s1 := s.changeImage (s.image.entries.filter fun x => x.key != e.key)
  let s2 := if e.cls = .marker then
      s1.modifyTarget e.key.aliasNo fun t => { t with marker := none }
    else s1
  s2.markStale e.key

/-- RETIRE (R19, R130); the record carries the removed entry's expected value, mask and drift count
(R145). -/
def State.beginRetire (s : State) (c : Staged) : Reaction :=
  s.validated .retire c <|
    match s.entry (keyOf c.body) with
    | none => s.refuse c .noEntry
    | some e =>
      ((s.removeEntry e).finish
        { completionOf c .ok with
          aliasNo := c.body.aliasNo, addr := addrOf c.body, expected := e.expected,
          mask := e.mask, count := halfCount e.drifts }, [])

/-- The completion record of a found entry (R20, R145). -/
def queryCompletion (c : Staged) (e : Entry) : Completion :=
  { completionOf c .ok with
    aliasNo := aliasByte e.key.aliasNo, addr := e.key.addr, value := e.lastObserved.getD 0,
    expected := e.expected, mask := e.mask, detail := entryDetail e, count := halfCount e.drifts }

/-- The entry a QUERY_ENTRY finds: the one with the staged key, or the one with the lowest key above
it (R20, R139). -/
def State.queried (s : State) (b : CmdBytes) : Option Entry :=
  match optionQuery b.option with
  | some .exact => s.entry (keyOf b)
  | some .next => s.nextEntry (some (keyOf b)) (fun _ => true)
  | none => none

/-- QUERY_ENTRY (R20, R139). -/
def State.beginQueryEntry (s : State) (c : Staged) : Reaction :=
  s.validated .queryEntry c <|
    match s.queried c.body with
    | some e => (s.finish (queryCompletion c e), [])
    | none => s.refuse c .noEntry

/-! ### Direct access: READ and WRITE -/

/-- READ (R131). -/
def State.beginRead (s : State) (c : Staged) : Reaction :=
  s.validated .read c <|
    match s.target (slotOf c.body) with
    | none => s.refuse c .noTarget
    | some t =>
      if !addrFits t (addrOf c.body) then s.refuse c .badArgument
      else s.startWork c .direct

/-- WRITE (R132). -/
def State.beginWrite (s : State) (c : Staged) : Reaction :=
  s.validated .write c <|
    match s.target (slotOf c.body) with
    | none => s.refuse c .noTarget
    | some t =>
      if !addrFits t (addrOf c.body) then s.refuse c .badArgument
      else if (s.entry (keyOf c.body)).isSome then s.refuse c .imaged
      else s.startWork c .direct

/-! ### Whole targets: RESTORE and VERIFY -/

/-- RESTORE: the claim is taken at the take, and the walk begins (R65, R133). -/
def State.beginRestore (s : State) (c : Staged) : Reaction :=
  s.validated .restore c <|
    let p := RestoreProgress.start (slotOf c.body)
    ((s.claimTarget (slotOf c.body) .executor).setCommand c (.restore p false)).restoreGoOn
      .executor p

/-- VERIFY (R134). -/
def State.beginVerify (s : State) (c : Staged) : Reaction :=
  s.validated .verify c <| s.verifyGoOn c VerifyProgress.start

/-! ### Settings, reference and ports: SET, COMMIT, PORT_RESET -/

/-- SET: the new value is stored, and the record carries the previous one (R136, R146). -/
def State.beginSet (s : State) (c : Staged) : Reaction :=
  s.validated .set c <|
    match settingOf c.body.aliasNo with
    | none => s.refuse c .badArgument
    | some k =>
      (({ s with settings := s.settings.put k c.body.value }).finish
        { completionOf c .ok with
          aliasNo := c.body.aliasNo, value := s.settings.get k, expected := c.body.value }, [])

/-- The reference after a COMMIT (R110). -/
def State.committed (s : State) (o : CommitOption) : Option Half :=
  match o with
  | .set => some s.image.signature
  | .clear => none

/-- COMMIT: the reference is set or cleared, and TABLE_FAULT is cleared (R110, R137); the record's
count carries the reference after the command (R146). -/
def State.beginCommit (s : State) (c : Staged) : Reaction :=
  s.validated .commit c <|
    match optionCommit c.body.option with
    | none => s.refuse c .badArgument
    | some o =>
      (({ s with image := { s.image with reference := s.committed o, tableFault := false } }).finish
        { completionOf c .ok with count := (s.committed o).getD 0 }, [])

/-- PORT_RESET: a request for recovery rounds goes to the named port (R98, R138). -/
def State.beginPortReset (s : State) (c : Staged) : Reaction :=
  s.validated .portReset c <|
    match portNumber c.body.value with
    | none => s.refuse c .badArgument
    | some p => (s.setCommand c .portReset, [(p, .portReset)])

/-! ### The kind of a command -/

/-- A KIND byte that is not assigned is refused with UNKNOWN_KIND (R118 step 1, R182). -/
def State.beginUnknown (s : State) (c : Staged) : Reaction := s.refuse c .unknownKind

/-- What the executor does with a command it takes, by its KIND (R182). -/
def State.begin (s : State) (c : Staged) : Reaction :=
  match kindOf c.kind with
  | none => s.beginUnknown c
  | some .attach => s.beginAttach c
  | some .detach => s.beginDetach c
  | some .release => s.beginRelease c
  | some .queryTarget => s.beginQueryTarget c
  | some .define => s.beginDefine c
  | some .update => s.beginUpdate c
  | some .retire => s.beginRetire c
  | some .queryEntry => s.beginQueryEntry c
  | some .read => s.beginRead c
  | some .write => s.beginWrite c
  | some .restore => s.beginRestore c
  | some .verify => s.beginVerify c
  | some .set => s.beginSet c
  | some .commit => s.beginCommit c
  | some .portReset => s.beginPortReset c

/-! ### The meanings of the rows -/

/-- While RESETn is low the part answers no access, takes no request and creates no record (R21,
R24, R114, R142, R154, R166, R180), so a command or an event has no effect. -/
def State.whileRunning (s : State) (f : State → State) : Host.Outcome State Fault Refusal :=
  .next (if s.resetnLow then s else f s)

/-- The record a kind's row takes from the head of the queue. -/
def stagedOf (k : CommandKind) (b : CmdBytes) : Staged := { kind := kindCode k, body := b }

/-- COMMAND_TAKE: the executor takes the head of the Command Queue, whatever its kind (R117). -/
def execCommandTake (s : State) : Host.Outcome State Fault Refusal :=
  s.whileRunning fun s =>
    match s.queue.head? with
    | some c => s.takeHead c State.begin
    | none => s

/-- UNKNOWN_KIND: the executor takes a head whose KIND byte is not assigned (R118). -/
def execUnknownKind (kind : Byte) (b : CmdBytes) (s : State) : Host.Outcome State Fault Refusal :=
  s.whileRunning fun s =>
    if kindOf kind = none then s.takeHead { kind := kind, body := b } State.beginUnknown else s

/-- ATTACH: the executor takes this command from the head of the queue (R123). -/
def execAttach (b : CmdBytes) (s : State) : Host.Outcome State Fault Refusal :=
  s.whileRunning fun s => s.takeHead (stagedOf .attach b) State.beginAttach

/-- DETACH: the executor takes this command from the head of the queue (R124). -/
def execDetach (b : CmdBytes) (s : State) : Host.Outcome State Fault Refusal :=
  s.whileRunning fun s => s.takeHead (stagedOf .detach b) State.beginDetach

/-- RELEASE: the executor takes this command from the head of the queue (R125). -/
def execRelease (b : CmdBytes) (s : State) : Host.Outcome State Fault Refusal :=
  s.whileRunning fun s => s.takeHead (stagedOf .release b) State.beginRelease

/-- QUERY_TARGET: the executor takes this command from the head of the queue (R140). -/
def execQueryTarget (b : CmdBytes) (s : State) : Host.Outcome State Fault Refusal :=
  s.whileRunning fun s => s.takeHead (stagedOf .queryTarget b) State.beginQueryTarget

/-- DEFINE: the executor takes this command from the head of the queue (R126). -/
def execDefine (b : CmdBytes) (s : State) : Host.Outcome State Fault Refusal :=
  s.whileRunning fun s => s.takeHead (stagedOf .define b) State.beginDefine

/-- UPDATE: the executor takes this command from the head of the queue (R128). -/
def execUpdate (b : CmdBytes) (s : State) : Host.Outcome State Fault Refusal :=
  s.whileRunning fun s => s.takeHead (stagedOf .update b) State.beginUpdate

/-- RETIRE: the executor takes this command from the head of the queue (R130). -/
def execRetire (b : CmdBytes) (s : State) : Host.Outcome State Fault Refusal :=
  s.whileRunning fun s => s.takeHead (stagedOf .retire b) State.beginRetire

/-- QUERY_ENTRY: the executor takes this command from the head of the queue (R139). -/
def execQueryEntry (b : CmdBytes) (s : State) : Host.Outcome State Fault Refusal :=
  s.whileRunning fun s => s.takeHead (stagedOf .queryEntry b) State.beginQueryEntry

/-- READ: the executor takes this command from the head of the queue (R131). -/
def execRead (b : CmdBytes) (s : State) : Host.Outcome State Fault Refusal :=
  s.whileRunning fun s => s.takeHead (stagedOf .read b) State.beginRead

/-- WRITE: the executor takes this command from the head of the queue (R132). -/
def execWrite (b : CmdBytes) (s : State) : Host.Outcome State Fault Refusal :=
  s.whileRunning fun s => s.takeHead (stagedOf .write b) State.beginWrite

/-- RESTORE: the executor takes this command from the head of the queue (R133). -/
def execRestore (b : CmdBytes) (s : State) : Host.Outcome State Fault Refusal :=
  s.whileRunning fun s => s.takeHead (stagedOf .restore b) State.beginRestore

/-- VERIFY: the executor takes this command from the head of the queue (R134). -/
def execVerify (b : CmdBytes) (s : State) : Host.Outcome State Fault Refusal :=
  s.whileRunning fun s => s.takeHead (stagedOf .verify b) State.beginVerify

/-- SET: the executor takes this command from the head of the queue (R136). -/
def execSet (b : CmdBytes) (s : State) : Host.Outcome State Fault Refusal :=
  s.whileRunning fun s => s.takeHead (stagedOf .set b) State.beginSet

/-- COMMIT: the executor takes this command from the head of the queue (R137). -/
def execCommit (b : CmdBytes) (s : State) : Host.Outcome State Fault Refusal :=
  s.whileRunning fun s => s.takeHead (stagedOf .commit b) State.beginCommit

/-- PORT_RESET: the executor takes this command from the head of the queue (R138). -/
def execPortReset (b : CmdBytes) (s : State) : Host.Outcome State Fault Refusal :=
  s.whileRunning fun s => s.takeHead (stagedOf .portReset b) State.beginPortReset

end Machine
end Sys2Proof
end

