-- ==== Sys2Proof/Machine/PortEvents.lean ====
section
/-! DEFINITION. The events of the two I2C buses (R91 to R98). What the targets and
the lines do is the operands of these events. An event that a port is not in a state to meet does not
come about, and leaves the state as it is. DESIGN CHOICE (log 11). -/

namespace Sys2Proof
namespace Machine

/-- START_CHECK_LINES_HIGH: a start check that waited for a low line makes the start condition once
both lines read high together (R91). -/
def execStartCheckLinesHigh (p : PortId) (s : State) : Host.Outcome State Fault Refusal :=
  s.whileRunning fun s =>
    match (s.port p).flight with
    | some f => s.setPort p { s.port p with flight := some { f with phase := .started } }
    | none => s

/-- START_CHECK_TIMEOUT: a line held low for STRETCH_LIMIT during the start check ends the
transaction with BUS_TIMEOUT, and the port enters RECOVERING (R91, R94). -/
def execStartCheckTimeout (p : PortId) (s : State) : Host.Outcome State Fault Refusal :=
  s.whileRunning fun s =>
    match (s.port p).flight with
    | some f => if f.phase = .startCheck then s.timeOut p f else s
    | none => s

/-- STRETCH_TIMEOUT: SCL held low for STRETCH_LIMIT during a transaction ends it with BUS_TIMEOUT,
and the port enters RECOVERING (R93, R94). -/
def execStretchTimeout (p : PortId) (s : State) : Host.Outcome State Fault Refusal :=
  s.whileRunning fun s =>
    match (s.port p).flight with
    | some f => s.timeOut p f
    | none => s

/-- TRANSACTION_END: a transaction ended after its stop condition; the outcome is read from the byte
not acknowledged, if any, and the byte received (R92, R94). -/
def execTransactionEnd (p : PortId) (refused : Option SentByte) (received : Byte) (s : State) :
    Host.Outcome State Fault Refusal :=
  s.whileRunning fun s =>
    match (s.port p).flight with
    | some f =>
      match endOutcome f.form refused received with
      | some o => s.endTransaction p f o
      | none => s
    | none => s

/-- RECOVERY_ROUND_END: step 3 of a round reads both lines; it succeeds if both read high (R95, R96,
R98). -/
def execRecoveryRoundEnd (p : PortId) (sclHigh sdaHigh : Bool) (s : State) :
    Host.Outcome State Fault Refusal :=
  s.whileRunning fun s => s.roundEnds p (roundSuccess sclHigh sdaHigh)

/-- RECOVERY_STRETCH_TIMEOUT: SCL held low for STRETCH_LIMIT at a pulse or at the stop condition of a
round makes it fail at that point, without its remaining steps (R95). -/
def execRecoveryStretchTimeout (p : PortId) (s : State) : Host.Outcome State Fault Refusal :=
  s.whileRunning fun s => s.roundEnds p false

end Machine
end Sys2Proof
end

