-- ==== Sys2Proof/Machine/Reset.lean ====
section
/-! DEFINITION. The two resets and the rise of RESETn (R21, R178 to R180). -/

namespace Sys2Proof
namespace Machine

/-- HARDWARE_RESET: every block takes its hardware-reset values, and everything in progress is gone
(R21, R24, R68, R71, R87, R114, R116, R136, R142, R154, R166, R181). RESETn low keeps the part from
answering until it rises; at power-on the RESETn input stays at its level. The QUIET input stays at
its level: it is driven from outside. -/
def execHardwareReset (cause : ResetCause) (s : State) : Host.Outcome State Fault Refusal :=
  .next
    { State.reset with
      quiet := s.quiet
      resetnLow := match cause with
        | .resetnLow => true
        | .powerOn => s.resetnLow
      choices := s.choices
      pending := s.pending }

/-- RESETN_RISE: the part begins to answer, every block still as it is (R180). -/
def execResetnRise (s : State) : Host.Outcome State Fault Refusal :=
  .next { s with resetnLow := false }

/-! ### Interface Reset, block by block (R178) -/

/-- An entry at Interface Reset: PENDING becomes UNSEEN, REPAIRING becomes DRIFTED (R22). -/
def entryAtInterfaceReset (e : Entry) : Entry :=
  match e.state with
  | .pending => { e with state := .unseen }
  | .repairing => { e with state := .drifted }
  | .unseen | .clean | .drifted | .failed => e

/-- A target at Interface Reset: RESTORING becomes ONLINE, and no restorer remains (R86). -/
def targetAtInterfaceReset (t : Target) : Target :=
  { t with
    state := if t.state = .restoring then .online else t.state
    restorer := none }

/-- A port at Interface Reset: waiting requests are withdrawn, a transaction in flight and rounds in
progress run on with no one to report to, the passed-over count is 0, and the state stays (R104). -/
def portAtInterfaceReset (x : Port) : Port :=
  { x with
    flight := x.flight.map fun f => { f with discarded := true }
    waiting := []
    passedOver := 0
    recovery := x.recovery.map fun r => { r with discarded := true } }

/-- The Scrub Engine at Interface Reset: IDLE, the pass count kept (R50). -/
def scrubAtInterfaceReset (e : ScrubEngine) : ScrubEngine :=
  { ScrubEngine.reset with passCount := e.passCount }

/-- INTERFACE_RESET, whatever its section code (R167, R178). -/
def execInterfaceReset (_code : BitVec 4) (s : State) : Host.Outcome State Fault Refusal :=
  s.whileRunning fun s =>
    { s with
      image := { s.image with entries := s.image.entries.map entryAtInterfaceReset }
      targets := s.targets.map fun t => t.map targetAtInterfaceReset
      scrub := scrubAtInterfaceReset s.scrub
      command := none
      port0 := portAtInterfaceReset s.port0
      port1 := portAtInterfaceReset s.port1
      queue := []
      completions := []
      log := { s.log with records := [] }
      sections :=
        { issueBusy := false, issueDone := false, scrubDone := false, disable := 0 } }

end Machine
end Sys2Proof
end

