-- ==== Sys2Proof/Machine/ScrubEvents.lean ====
section
/-! DEFINITION. The flag commands of the SCRUB section, the QUIET input and the Pacing Timer's
expiry (R32 to R36, R46, R47). -/

namespace Sys2Proof
namespace Machine

/-- SCRUB_START: from IDLE the engine starts; in any other state SCRUB.Done becomes 0 (R35). -/
def execScrubStart (s : State) : Host.Outcome State Fault Refusal :=
  s.whileRunning fun s =>
    if s.scrub.state = .idle then settled s.startScrub
    else { s with sections := { s.sections with scrubDone := false } }

/-- SCRUB_CLEAR: IDLE, HELD and QUIET end in IDLE at once; a running engine is asked to stop; and
SCRUB.Done becomes 0 in any state (R34, R36, R47, R172). -/
def execScrubClear (s : State) : Host.Outcome State Fault Refusal :=
  s.whileRunning fun s =>
    match s.scrub.state with
    | .idle | .held | .quiet => s.scrubIdle false
    | .pacing | .readWait | .repairWait | .verifyWait | .restore =>
      { s with
        scrub := { s.scrub with stopRequested := true }
        sections := { s.sections with scrubDone := false } }

/-- SCRUB_PULSE: ends the hold in HELD, no effect in any other state (R46). -/
def execScrubPulse (s : State) : Host.Outcome State Fault Refusal :=
  s.whileRunning fun s => if s.scrub.state = .held then settled s.pulseHeld else s

/-- QUIET_ASSERT: the input is asserted; it is sampled at the next expiry or START (R33). -/
def execQuietAssert (s : State) : Host.Outcome State Fault Refusal :=
  .next { s with quiet := true }

/-- QUIET_RELEASE: the input is released; an engine in QUIET proceeds at once (R33). -/
def execQuietRelease (s : State) : Host.Outcome State Fault Refusal :=
  let s1 : State := { s with quiet := false }
  s1.whileRunning fun s => if s.scrub.state = .quiet then settled s.proceed else s

/-- PACING_EXPIRY: the running Pacing Timer expires (R31, R32). No time is counted: the expiry comes as
a command of its own, at SCRUB_INTERVAL 0 too. DESIGN CHOICE (log 12). -/
def execPacingExpiry (s : State) : Host.Outcome State Fault Refusal :=
  s.whileRunning fun s =>
    if s.scrub.state = .pacing ∧ s.scrub.timer.isSome then settled s.expire else s

end Machine
end Sys2Proof
end

