-- ==== Sys2Proof/Machine/Sections.lean ====
section
/-! DEFINITION. The flag commands of the ISSUE, RESULT and ALERT sections (R150, R151, R163, R164,
R168 to R173). -/

namespace Sys2Proof
namespace Machine

/-! ### ISSUE -/

/-- ISSUE_START: ignored while a submission waits; otherwise the staging bytes are accepted at once
if the queue has room, and wait, frozen, if it holds 16 (R115, R168). -/
def execIssueStart (s : State) : Host.Outcome State Fault Refusal :=
  s.whileRunning fun s =>
    if s.sections.issueBusy then s
    else if s.queue.length < Config.queueCapacity then
      { s with
        queue := s.queue ++ [s.staging]
        sections := { s.sections with issueDone := true } }
    else { s with sections := { s.sections with issueBusy := true, issueDone := false } }

/-- ISSUE_CLEAR: ISSUE.Done becomes 0, and a waiting submission is withdrawn, the staging bytes
keeping their contents (R170). -/
def execIssueClear (s : State) : Host.Outcome State Fault Refusal :=
  s.whileRunning fun s =>
    { s with sections := { s.sections with issueBusy := false, issueDone := false } }

/-- ISSUE_PULSE has no effect (R170). -/
def execIssuePulse (s : State) : Host.Outcome State Fault Refusal := .next s

/-! ### RESULT -/

/-- RESULT_START releases the presented record; with none presented it does nothing (R150). -/
def execResultStart (s : State) : Host.Outcome State Fault Refusal :=
  s.whileRunning fun s => { s with completions := s.completions.tail }

/-- RESULT_CLEAR discards every record and keeps the reservation (R151). -/
def execResultClear (s : State) : Host.Outcome State Fault Refusal :=
  s.whileRunning fun s => { s with completions := [] }

/-- RESULT_PULSE has no effect (R171). -/
def execResultPulse (s : State) : Host.Outcome State Fault Refusal := .next s

/-! ### ALERT -/

/-- ALERT_START releases the presented record; with none presented it does nothing (R163). -/
def execAlertStart (s : State) : Host.Outcome State Fault Refusal :=
  s.whileRunning fun s => { s with log := { s.log with records := s.log.records.tail } }

/-- ALERT_CLEAR discards every record and keeps the next sequence number (R164). -/
def execAlertClear (s : State) : Host.Outcome State Fault Refusal :=
  s.whileRunning fun s => { s with log := { s.log with records := [] } }

/-- ALERT_PULSE has no effect (R173). -/
def execAlertPulse (s : State) : Host.Outcome State Fault Refusal := .next s

end Machine
end Sys2Proof
end

