-- ==== Sys2Proof/Machine/Window.lean ====
section
/-! DEFINITION. Writes to the register window that are no flag command of a section (R167, R174,
R180, R181). -/

namespace Sys2Proof
namespace Machine

/-- FLAGCMD_IGNORED: no flag changes and no block acts (R167). -/
def execFlagcmdIgnored (_written : Byte) (s : State) : Host.Outcome State Fault Refusal := .next s

/-- WINDOW_WRITE_IGNORED: a write to an unassigned or read-only offset changes nothing (R180). -/
def execWindowWriteIgnored (_offset : BitVec 6) (_written : Byte) (s : State) :
    Host.Outcome State Fault Refusal := .next s

/-- IDIS_WRITE: all four Disable flags take the written bits 0–3; the others are ignored. The
staging freeze does not reach IDIS (R174, R184). -/
def execIdisWrite (written : Byte) (s : State) : Host.Outcome State Fault Refusal :=
  s.whileRunning fun s =>
    { s with sections := { s.sections with disable := written.extractLsb' 0 4 } }

/-- STAGING_WRITE: the byte is stored while ISSUE.Busy is 0 and ignored while it is 1 (R169,
R181). -/
def execStagingWrite (which : StagingByte) (written : Byte) (s : State) :
    Host.Outcome State Fault Refusal :=
  s.whileRunning fun s =>
    if s.sections.issueBusy then s else { s with staging := stagedPut s.staging which written }

end Machine
end Sys2Proof
end

