-- ==== Sys2Proof/Machine/Dispatch.lean ====
section
/-! DEFINITION. One arm per command of the block: each calls the command's meaning. -/

namespace Sys2Proof
namespace Machine

def exec (i : Instr) (s : State) : Host.Outcome State Fault Refusal :=
  match i with
  | .hardwareReset cause => Sys2Proof.Machine.execHardwareReset cause s
  | .interfaceReset code => Sys2Proof.Machine.execInterfaceReset code s
  | .resetnRise => Sys2Proof.Machine.execResetnRise s
  | .flagcmdIgnored written => Sys2Proof.Machine.execFlagcmdIgnored written s
  | .issueStart => Sys2Proof.Machine.execIssueStart s
  | .issueClear => Sys2Proof.Machine.execIssueClear s
  | .issuePulse => Sys2Proof.Machine.execIssuePulse s
  | .resultStart => Sys2Proof.Machine.execResultStart s
  | .resultClear => Sys2Proof.Machine.execResultClear s
  | .resultPulse => Sys2Proof.Machine.execResultPulse s
  | .scrubStart => Sys2Proof.Machine.execScrubStart s
  | .scrubClear => Sys2Proof.Machine.execScrubClear s
  | .scrubPulse => Sys2Proof.Machine.execScrubPulse s
  | .alertStart => Sys2Proof.Machine.execAlertStart s
  | .alertClear => Sys2Proof.Machine.execAlertClear s
  | .alertPulse => Sys2Proof.Machine.execAlertPulse s
  | .idisWrite written => Sys2Proof.Machine.execIdisWrite written s
  | .stagingWrite which written => Sys2Proof.Machine.execStagingWrite which written s
  | .windowWriteIgnored offset written => Sys2Proof.Machine.execWindowWriteIgnored offset written s
  | .quietAssert => Sys2Proof.Machine.execQuietAssert s
  | .quietRelease => Sys2Proof.Machine.execQuietRelease s
  | .pacingExpiry => Sys2Proof.Machine.execPacingExpiry s
  | .commandTake => Sys2Proof.Machine.execCommandTake s
  | .unknownKind kind b => Sys2Proof.Machine.execUnknownKind kind b s
  | .attach b => Sys2Proof.Machine.execAttach b s
  | .detach b => Sys2Proof.Machine.execDetach b s
  | .release b => Sys2Proof.Machine.execRelease b s
  | .queryTarget b => Sys2Proof.Machine.execQueryTarget b s
  | .define b => Sys2Proof.Machine.execDefine b s
  | .update b => Sys2Proof.Machine.execUpdate b s
  | .retire b => Sys2Proof.Machine.execRetire b s
  | .queryEntry b => Sys2Proof.Machine.execQueryEntry b s
  | .read b => Sys2Proof.Machine.execRead b s
  | .write b => Sys2Proof.Machine.execWrite b s
  | .restore b => Sys2Proof.Machine.execRestore b s
  | .verify b => Sys2Proof.Machine.execVerify b s
  | .set b => Sys2Proof.Machine.execSet b s
  | .commit b => Sys2Proof.Machine.execCommit b s
  | .portReset b => Sys2Proof.Machine.execPortReset b s
  | .startCheckLinesHigh p => Sys2Proof.Machine.execStartCheckLinesHigh p s
  | .startCheckTimeout p => Sys2Proof.Machine.execStartCheckTimeout p s
  | .stretchTimeout p => Sys2Proof.Machine.execStretchTimeout p s
  | .transactionEnd p refused received => Sys2Proof.Machine.execTransactionEnd p refused received s
  | .recoveryRoundEnd p sclHigh sdaHigh => Sys2Proof.Machine.execRecoveryRoundEnd p sclHigh sdaHigh s
  | .recoveryStretchTimeout p => Sys2Proof.Machine.execRecoveryStretchTimeout p s

end Machine
end Sys2Proof
end

