-- ==== Sys2Proof/Machine/Flags.lean ====
section
/-! DEFINITION. What the part derives from its state for the host: section flags and IRQn, the Fault
Summary and FAULTn, the codes of the status bytes, and the register window as it reads (R166 to
R177, R180 to R187). -/

namespace Sys2Proof
namespace Machine

/-! ### Section flags (R168 to R173) -/

/-- The four sections (chapter Sections, Interrupt and Fault Output). -/
inductive SectionName where
  | issue
  | result
  | scrub
  | alert
  deriving DecidableEq, Repr

/-- The code of a section (R184). -/
def sectionCode : SectionName → Nat
  | .issue => 0
  | .result => 1
  | .scrub => 2
  | .alert => 3

/-- The reservation: 1 while the executor holds a current command (R142, R148). -/
def State.reservation (s : State) : Nat := if s.command.isSome then 1 else 0

/-- The Busy flag of a section: a waiting submission (R168), a current command (R171), a Scrub
Engine that is not IDLE (R172), a log of 32 records (R173). -/
def State.busyFlag (s : State) : SectionName → Bool
  | .issue => s.sections.issueBusy
  | .result => s.command.isSome
  | .scrub => s.scrub.state != .idle
  | .alert => s.log.records.length == Config.logCapacity

/-- The Done flag of a section: an accepted submission (R168), a presented completion record (R171),
the Scrub Engine's report (R172), a presented drift record (R173). -/
def State.doneFlag (s : State) : SectionName → Bool
  | .issue => s.sections.issueDone
  | .result => !s.completions.isEmpty
  | .scrub => s.sections.scrubDone
  | .alert => !s.log.records.isEmpty

/-- The Disable flag of a section (R174). -/
def State.disableFlag (s : State) (x : SectionName) : Bool :=
  s.sections.disable.getLsbD (sectionCode x)

/-- Every section, by code. -/
def allSections : List SectionName := [.issue, .result, .scrub, .alert]

/-- IRQn is asserted exactly when some section has Done 1 and Disable 0 (R175). -/
def State.irqAsserted (s : State) : Bool :=
  allSections.any fun x => s.doneFlag x && !s.disableFlag x

/-! ### Fault Summary (R176, R177) -/

/-- A port is DOWN. -/
def State.portIsDown (s : State) (p : PortId) : Bool := (s.port p).state == .down

/-- FAULTSUM: TABLE_FAULT, port 0 DOWN, port 1 DOWN, a target QUARANTINED (R176, R185). -/
def State.faultSummary (s : State) : Byte :=
  bitAt s.image.tableFault 0 ||| bitAt (s.portIsDown .p0) 1 ||| bitAt (s.portIsDown .p1) 2 |||
    bitAt (s.quarantineCount != 0) 3

/-- FAULTn is asserted exactly while a condition of the Fault Summary is true (R177). -/
def State.faultAsserted (s : State) : Bool :=
  s.image.tableFault || s.portIsDown .p0 || s.portIsDown .p1 || s.quarantineCount != 0

/-! ### Codes (R183, R185, R187) -/

/-- The code of a completion status (R183). -/
def statusCode : Status → Byte
  | .ok => 0x00
  | .restored => 0x01
  | .unknownKind => 0x02
  | .badArgument => 0x03
  | .noTarget => 0x04
  | .inUse => 0x05
  | .addressClash => 0x06
  | .notEmpty => 0x07
  | .duplicate => 0x08
  | .noEntry => 0x09
  | .tableFull => 0x0A
  | .markerTaken => 0x0B
  | .imaged => 0x0C
  | .quarantined => 0x0D
  | .busyTarget => 0x0E
  | .noResponse => 0x0F
  | .dataRefused => 0x10
  | .busTimeout => 0x11
  | .portDown => 0x12
  | .verifyMismatch => 0x13

/-- The code of a drift record's kind (R187). -/
def driftCode : DriftKind → Byte
  | .mismatch => 0x01
  | .cleared => 0x02
  | .repaired => 0x03
  | .repairFailed => 0x04
  | .targetReset => 0x05
  | .restoreDone => 0x06
  | .restoreAbandoned => 0x07
  | .quarantined => 0x08
  | .portDown => 0x09
  | .portUp => 0x0A
  | .tableFault => 0x0B

/-- The code of a port's state (R185). -/
def portStateCode : PortState → Byte
  | .idle => 0
  | .busy => 1
  | .recovering => 2
  | .down => 3

/-- The code of the Scrub Engine's state (R185). -/
def scrubStateCode : ScrubState → Byte
  | .idle => 0
  | .pacing => 1
  | .readWait => 2
  | .repairWait => 3
  | .verifyWait => 4
  | .restore => 5
  | .held => 6
  | .quiet => 7

/-! ### The register window as it reads (R180) -/

/-- SECTSTAT: Done and Busy of each section, two bits a section (R184). -/
def State.sectStat (s : State) : Byte :=
  allSections.foldl
    (fun acc x =>
      acc ||| bitAt (s.doneFlag x) (2 * sectionCode x) ||| bitAt (s.busyFlag x) (2 * sectionCode x + 1))
    0

/-- PORTSTATE: port 0 in bits 1–0, port 1 in bits 5–4 (R185). -/
def State.portStateByte (s : State) : Byte :=
  portStateCode s.port0.state ||| (portStateCode s.port1.state <<< 4)

/-- A staging byte as stored (R181). -/
def stagedGet (s : Staged) : StagingByte → Byte
  | .kind => s.kind
  | .tag => s.body.tag
  | .aliasNo => s.body.aliasNo
  | .raddrH => s.body.raddrH
  | .raddrL => s.body.raddrL
  | .value => s.body.value
  | .mask => s.body.mask
  | .option => s.body.option
  | .rstval => s.body.rstval

/-- The twelve bytes of the result window for a presented record, R_TAG to R_COUNT_L (R186). -/
def resultBytes (r : Completion) : List Byte :=
  [r.tag, r.kind, statusCode r.status, r.aliasNo, highByte r.addr, lowByte r.addr, r.value,
   r.expected, r.mask, r.detail, highByte r.count, lowByte r.count]

/-- The ten bytes of the log window for a presented record, L_SEQ_H to L_PASS_L; an absent field
reads 0 (R155, R187). -/
def logBytes (r : DriftRecord) : List Byte :=
  let addr := r.addr.getD 0
  [highByte r.sequence, lowByte r.sequence, driftCode r.kind, r.who.getD 0, highByte addr,
   lowByte addr, r.expected.getD 0, r.observed.getD 0, highByte r.pass, lowByte r.pass]

/-- A byte of the result window; 0 while no record is presented (R149). -/
def State.resultByte (s : State) (i : Nat) : Byte :=
  match s.completions.head? with
  | some r => (resultBytes r).getD i 0
  | none => 0

/-- A byte of the log window; 0 while no record is presented (R162). -/
def State.logByte (s : State) (i : Nat) : Byte :=
  match s.log.records.head? with
  | some r => (logBytes r).getD i 0
  | none => 0

/-- What a read of an offset shows (R180). Unassigned offsets read 0. -/
def State.windowByte (s : State) (offset : BitVec 6) : Byte :=
  match offset.toNat with
  | 0x00 => s.staging.kind
  | 0x01 => s.staging.body.tag
  | 0x02 => s.staging.body.aliasNo
  | 0x03 => s.staging.body.raddrH
  | 0x04 => s.staging.body.raddrL
  | 0x05 => s.staging.body.value
  | 0x06 => s.staging.body.mask
  | 0x07 => s.staging.body.option
  | 0x08 => s.staging.body.rstval
  | 0x0C => s.sectStat
  | 0x0D => s.sections.disable.setWidth 8
  | 0x0E => s.faultSummary
  | 0x0F => 0x41
  | 0x30 => BitVec.ofNat 8 s.queue.length
  | 0x31 => BitVec.ofNat 8 s.completions.length
  | 0x32 => BitVec.ofNat 8 s.log.records.length
  | 0x33 => scrubStateCode s.scrub.state
  | 0x34 => highByte s.scrub.passCount
  | 0x35 => lowByte s.scrub.passCount
  | 0x36 => highByte s.image.signature
  | 0x37 => lowByte s.image.signature
  | 0x38 => highByte (s.image.reference.getD 0)
  | 0x39 => lowByte (s.image.reference.getD 0)
  | 0x3A => bitAt s.image.reference.isSome 0
  | 0x3B => s.image.checks
  | 0x3C => highByte (halfCount s.image.entries.length)
  | 0x3D => lowByte (halfCount s.image.entries.length)
  | 0x3E => s.portStateByte
  | 0x3F => BitVec.ofNat 8 s.quarantineCount
  | n =>
    if 0x10 ≤ n ∧ n ≤ 0x1B then s.resultByte (n - 0x10)
    else if 0x20 ≤ n ∧ n ≤ 0x29 then s.logByte (n - 0x20)
    else 0

/-- A read access: the part drives no data while RESETn is low (R180). A read changes no state, so
it is no command of the block but a function of the state (log 14). -/
def State.readWindow (s : State) (offset : BitVec 6) : Option Byte :=
  if s.resetnLow then none else some (s.windowByte offset)

end Machine
end Sys2Proof
end

