-- ==== Sys2Proof/Safety.lean ====
section
/-! DEFINITION. The terms in which claims about the CI418 are stated: when the part is at rest, when a
command is due to be taken, what a safe step is, and the invariants of the state. -/

namespace Sys2Proof
namespace Machine

/-! ### Where a command stands -/

/-- No port has a waiting request it could act on: all that follows from earlier events is done. -/
def State.atRest (s : State) : Bool := !(s.port .p0).canAct && !(s.port .p1).canAct

/-- The take conditions hold: the hardware takes the head of the queue now (R117). -/
def State.takeDue (s : State) : Bool := !s.resetnLow && s.canTake

/-- This record is the head of the queue and the executor is free to take it (R117), nothing else
being left to do in the part. -/
def State.readyFor (s : State) (c : Staged) : Bool :=
  s.takeDue && s.queue.head? == some c && s.atRest

/-- A port is IDLE with no request waiting. -/
def State.portFree (s : State) (p : PortId) : Bool :=
  (s.port p).state == .idle && (s.port p).waiting.isEmpty

/-- A step is safe when it goes on: no fault, no refusal. -/
def SafeStep (s : State) : Prop := ∃ t, step s = .next t

/-- The row of the table that the take of a record is: the row of its KIND, or UNKNOWN_KIND
(R182). -/
def rowOf (c : Staged) : Instr :=
  match kindOf c.kind with
  | none => .unknownKind c.kind c.body
  | some .attach => .attach c.body
  | some .detach => .detach c.body
  | some .release => .release c.body
  | some .queryTarget => .queryTarget c.body
  | some .define => .define c.body
  | some .update => .update c.body
  | some .retire => .retire c.body
  | some .queryEntry => .queryEntry c.body
  | some .read => .read c.body
  | some .write => .write c.body
  | some .restore => .restore c.body
  | some .verify => .verify c.body
  | some .set => .set c.body
  | some .commit => .commit c.body
  | some .portReset => .portReset c.body

/-- The part after the head of the queue has left it, everything else untouched: a submission that
waited at ISSUE has joined the tail, with ISSUE.Busy 0 and ISSUE.Done 1 (R115, R117, R169). -/
def State.afterTake (s : State) : State :=
  { s with
    queue := s.queue.tail ++ (if s.sections.issueBusy then [s.staging] else [])
    sections := { s.sections with
      issueBusy := false, issueDone := s.sections.issueDone || s.sections.issueBusy } }

/-- The part after a command that ended at its take, or was refused there, with this record. -/
def State.answered (s : State) (r : Completion) : State :=
  { s with completions := s.completions ++ [r] }

/-- The part while the executor carries out this record. -/
def State.working (s : State) (c : Staged) (g : Progress) : State :=
  { s with command := some { staged := c, progress := g } }

/-- A transaction as an engine forms it at grant (R89), its start check about to begin. -/
def formedFlight (eng : Engine) (a : Fin 16) (busAddr : BitVec 7) (timing : BusTiming) (f : Form) :
    Flight :=
  { requester := eng, form := f, aliasNo := a, busAddr := busAddr, timing := timing
    phase := .startCheck, discarded := false }

/-- The part with a port BUSY with a transaction. A transaction of the Scrub Engine has set the
passed-over count to 0 (R100). -/
def State.inFlight (s : State) (p : PortId) (f : Flight) : State :=
  s.setPort p
    { s.port p with
      state := .busy, flight := some f
      passedOver := match f.requester with
        | .scrub => 0
        | .executor => (s.port p).passedOver }

/-- The first transaction of a restore step: the write for mask 0xFF, a base read for any other
(R60). -/
def restoreForm (e : Entry) (w : Width) : Form :=
  if e.mask = 0xFF then .write e.key.addr w e.expected else .read e.key.addr w

/-- The progress of a restore at the beginning of a step (R58, R59, R60). -/
def restoreStep (g : RestoreProgress) (phase : RestorePhase) (e : Entry) : RestoreProgress :=
  { g with
    phase := phase, base := none, step := some e.key
    stage := if e.mask = 0xFF then .write else .baseRead }

/-- The Scrub Engine when the work of an entry has ended and the Pacing Timer has been started
(R31). -/
def State.paced (s : State) : State :=
  { s with
    scrub := { s.scrub with
      state := .pacing, current := none, repair := none, restore := none
      timer := some s.settings.scrubInterval } }

/-- The SCRUB section with SCRUB.Done at a value. -/
def State.withScrubDone (s : State) (done : Bool) : State :=
  { s with sections := { s.sections with scrubDone := done } }

/-- The check count after a pass start: one more while a reference is present (R111). -/
def State.checked (s : State) : State :=
  { s with image := { s.image with
      checks := if s.image.reference.isSome then s.image.checks + 1 else s.image.checks } }

/-- The self-check of a pass start finds no difference (R111). -/
def State.selfCheckPasses (s : State) : Prop := ∀ ref, s.image.reference = some ref →
  ref = s.image.signature

/-- The first failing check of a list, with its status (R118). -/
def firstFailing : List (Bool × Status) → Option Status
  | [] => none
  | (holds, status) :: rest => if holds then firstFailing rest else some status

/-- The checks of step 6, in order, for the kinds that have any (R123 to R126, R128, R130 to R132,
R139). -/
def stepSix (s : State) (k : CommandKind) (b : CmdBytes) : List (Bool × Status) :=
  let fits := ((s.target (slotOf b)).map fun t => addrFits t (addrOf b)).getD false
  let known := (s.entry (keyOf b)).isSome
  match k with
  | .attach =>
    [((s.target (slotOf b)).isNone, .inUse),
     (!s.addressTaken (attachPort b) (busAddrOf b.value), .addressClash)]
  | .detach => [((s.entriesOf (slotOf b)).isEmpty, .notEmpty)]
  | .release =>
    [(!(s.isQuarantined (slotOf b) &&
        (((s.target (slotOf b)).bind (·.restorer)).isSome || s.repairing (slotOf b))), .busyTarget)]
  | .define =>
    [(fits, .badArgument), (!known, .duplicate),
     (decide (s.image.entries.length < 512), .tableFull),
     (!(defineClass b == .marker && ((s.target (slotOf b)).bind (·.marker)).isSome), .markerTaken),
     (!(defineClass b == .marker && sameUnder b.mask b.rstval b.value), .badArgument)]
  | .update =>
    [(known, .noEntry),
     (((s.entry (keyOf b)).map fun e => !breaksMarker (updatedEntry e b)).getD true, .badArgument)]
  | .retire => [(known, .noEntry)]
  | .queryEntry => [((s.queried b).isSome, .noEntry)]
  | .read => [(fits, .badArgument)]
  | .write => [(fits, .badArgument), (!known, .imaged)]
  | .queryTarget | .restore | .verify | .set | .commit | .portReset => []

/-- The part of the state that no outcome, answer, grant or recovery round moves: the Command Queue
and the staging bytes, the settings, the inputs, the Disable and ISSUE flags, the reference and the
self-check, the signature with the bytes it covers, and the pass count. -/
structure Kept where
  queue : List Staged
  staging : Staged
  settings : Settings
  quiet : Bool
  resetnLow : Bool
  pending : List Instr
  disable : BitVec 4
  issueBusy : Bool
  issueDone : Bool
  reference : Option Half
  tableFault : Bool
  checks : Byte
  signature : Half
  bytes : List (List Byte)
  passCount : Half

/-- What of a state is kept so. -/
def State.kept (s : State) : Kept :=
  { queue := s.queue, staging := s.staging, settings := s.settings, quiet := s.quiet
    resetnLow := s.resetnLow, pending := s.pending, disable := s.sections.disable
    issueBusy := s.sections.issueBusy, issueDone := s.sections.issueDone
    reference := s.image.reference, tableFault := s.image.tableFault, checks := s.image.checks
    signature := s.image.signature, bytes := s.image.entries.map entryBytes
    passCount := s.scrub.passCount }

/-! ### Invariants -/

/-- The keys of a list of entries rise strictly: key order, no key twice (R1, R2). -/
def KeysRise (es : List Entry) : Prop := es.Pairwise fun x y => keyRank x.key < keyRank y.key

/-- The Image Table: key order, at most 512 entries, no care mask 0, and the current signature is the
signature of the entries (R1, R2, R3, R108). -/
structure ImageOk (s : State) : Prop where
  order : KeysRise s.image.entries
  size : s.image.entries.length ≤ Config.imageCapacity
  masks : ∀ e ∈ s.image.entries, e.mask ≠ 0
  signature : s.image.signature = signatureOf s.image.entries

/-- The queues and the log keep within their room, and a submission waits only while the Command
Queue is full (R114, R142, R154, R168). -/
structure QueuesOk (s : State) : Prop where
  queue : s.queue.length ≤ Config.queueCapacity
  completions : s.completions.length + s.reservation ≤ Config.completionCapacity
  log : s.log.records.length ≤ Config.logCapacity
  submission : s.sections.issueBusy = true → s.queue.length = Config.queueCapacity

/-- A latched TABLE_FAULT implies a present reference (R105). -/
def FaultOk (s : State) : Prop := s.image.tableFault = true → s.image.reference.isSome = true

/-- A port: a transaction in flight exactly while BUSY, recovery progress only while RECOVERING or
DOWN and always while RECOVERING, and a passed-over count of at most 4 (R87, R100). -/
structure PortOk (x : Port) : Prop where
  flight : x.state = .busy ↔ x.flight.isSome = true
  recovering : x.state = .recovering → x.recovery.isSome = true
  recovery : x.recovery.isSome = true → x.state = .recovering ∨ x.state = .down
  passedOver : x.passedOver ≤ Config.passedOverLimit

/-- Both ports. -/
def PortsOk (s : State) : Prop := ∀ p, PortOk (s.port p)

/-- An entry is REPAIRING only while it is the Scrub Engine's current entry and the engine is in
REPAIR_WAIT or VERIFY_WAIT (R14). -/
def RepairingOk (s : State) : Prop :=
  ∀ e ∈ s.image.entries, e.state = .repairing →
    s.scrub.current = some e.key ∧ (s.scrub.state = .repairWait ∨ s.scrub.state = .verifyWait)

/-- SCRUB.Done is 1 only while the engine is HELD or IDLE (R172). -/
def DoneOk (s : State) : Prop :=
  s.sections.scrubDone = true → s.scrub.state = .held ∨ s.scrub.state = .idle

/-- The claims on targets: the restorer is absent while the target is ONLINE and present while it is
RESTORING, and an engine named as restorer has a restore of that target in progress, the Scrub Engine
in its RESTORE state, the executor in its current command (R76, R78). -/
structure RestorerOk (s : State) : Prop where
  online : ∀ a t, s.target a = some t → t.state = .online → t.restorer = none
  restoring : ∀ a t, s.target a = some t → t.state = .restoring → t.restorer.isSome = true
  scrub : ∀ a t, s.target a = some t → t.restorer = some .scrub →
    s.scrub.state = .restore ∧ ∃ p, s.scrub.restore = some p ∧ p.aliasNo = a
  executor : ∀ a t, s.target a = some t → t.restorer = some .executor →
    ∃ c p turned, s.command = some { staged := c, progress := .restore p turned } ∧ p.aliasNo = a

/-- A reset value is present exactly in a MARKER entry, and differs from the expected value under the
care mask (R4, R6). -/
def ResetValuesOk (s : State) : Prop :=
  ∀ e ∈ s.image.entries,
    (e.resetValue.isSome = true ↔ e.cls = .marker) ∧
      ∀ r, e.resetValue = some r → r &&& e.mask ≠ e.expected &&& e.mask

/-- Image and targets agree: every entry's alias is attached (R2), the marker field of a target names
its MARKER entry and the two agree at all times (R6, R75), and the slot of an ATTACH whose probe is
under way is FREE (R72). -/
structure MarkersOk (s : State) : Prop where
  attached : ∀ e ∈ s.image.entries, (s.target e.key.aliasNo).isSome = true
  marked : ∀ a t addr, s.target a = some t →
    (t.marker = some addr ↔
      ∃ e ∈ s.image.entries, e.key = { aliasNo := a, addr := addr } ∧ e.cls = .marker)
  probing : ∀ c, s.command = some c → c.progress = .probe → s.target (slotOf c.staged.body) = none

/-- No two attached targets share a port and a bus address, and the place that an ATTACH probes is not
taken while its probe is under way (R73, R123). -/
structure PlacesOk (s : State) : Prop where
  distinct : ∀ a b x y, s.target a = some x → s.target b = some y → x.port = y.port →
    x.busAddr = y.busAddr → a = b
  probing : ∀ c, s.command = some { staged := c, progress := .probe } →
    s.addressTaken (attachPort c.body) (busAddrOf c.body.value) = false

/-- The settings keep within their ranges (R136). -/
def SettingsOk (s : State) : Prop := ∀ k, settingInRange k (s.settings.get k) = true

/-- The counts of an entry keep within their ranges (R3), and a present last observed holds no bit
outside the care mask (R4). -/
def EntryRangesOk (s : State) : Prop :=
  ∀ e ∈ s.image.entries, e.attempts ≤ 7 ∧ e.drifts ≤ 255 ∧
    ∀ m, e.lastObserved = some m → m &&& ~~~e.mask = 0

end Machine
end Sys2Proof
end

