-- ==== Sys2Proof/WellFormed.lean ====
section
/-! DEFINITION. Which commands are well formed: the operands that the rule of a row gives it. -/

namespace Sys2Proof

/-- A FLAGCMD byte that is ignored: function 0, 4, 5 or 6, or START, CLEAR or PULSE with a section
code outside 0–3 (R167). -/
def ignoredFlagByte (b : Byte) : Bool :=
  let f := (flagFunction b).toNat
  f == 0 || f == 4 || f == 5 || f == 6 ||
    ((f == 1 || f == 2 || f == 3) && 3 < (flagSection b).toNat)

/-- An offset that no write reaches: unassigned, or read-only (R180). -/
def ignoredOffset (o : BitVec 6) : Bool := 0x08 < o.toNat && o != 0x0C && o != 0x0D

/-- A command is well formed: the byte of an ignored flag command is one that is ignored, the offset
of an ignored write is one that is ignored, and an unknown kind is not assigned (R167, R180,
R182). -/
def Instr.wellFormed (i : Instr) : Bool :=
  match i with
  | .flagcmdIgnored b => ignoredFlagByte b
  | .windowWriteIgnored o _ => ignoredOffset o
  | .unknownKind k _ => (Machine.kindOf k).isNone
  | .hardwareReset _ | .interfaceReset _ | .resetnRise | .issueStart | .issueClear | .issuePulse
  | .resultStart | .resultClear | .resultPulse | .scrubStart | .scrubClear | .scrubPulse
  | .alertStart | .alertClear | .alertPulse | .idisWrite _ | .stagingWrite _ _ | .quietAssert
  | .quietRelease | .pacingExpiry | .commandTake | .attach _ | .detach _ | .release _
  | .queryTarget _ | .define _ | .update _ | .retire _ | .queryEntry _ | .read _ | .write _
  | .restore _ | .verify _ | .set _ | .commit _ | .portReset _ | .startCheckLinesHigh _
  | .startCheckTimeout _ | .stretchTimeout _ | .transactionEnd _ _ _ | .recoveryRoundEnd _ _ _
  | .recoveryStretchTimeout _ => true

end Sys2Proof
end

