-- ==== Sys2Proof/Certificates/Slice0/Obligations.lean ====
section
/-! DEFINITION. The statements for the provers, taken from the numbered rules of spec/. -/

open Sys2Proof Sys2Proof.Machine

/-! ### The block and its queue -/

/-- A step carries out the command at the front of the queue, with the queue's rest. With no command
waiting the block idles, which is the model's choice (log 4). -/
def Obligations.StepRunsFrontCommand : Prop :=
  (∀ (c : Instr) (rest : List Instr) (s : State), s.pending = c :: rest →
    step s = exec c { s with pending := rest }) ∧
  ∀ s : State, s.pending = [] → step s = .next s

/-- A write access of the host, offset by offset, as the command it is (R167, R180, R184). 0x00 to 0x08
are the staging bytes in their order, 0x0D is IDIS. At 0x0C a flag command byte is the function times
0x10 plus the section code, and bit 7 has no meaning; 0x70 to 0x7F are Interface Reset; every other
byte is ignored. A write to any other offset is ignored. What is ignored changes nothing, nor does
PULSE at ISSUE, RESULT and ALERT (R170, R171, R173). -/
def Obligations.WindowWritesAsCommands : Prop :=
  [0x10, 0x11, 0x12, 0x13, 0x20, 0x21, 0x22, 0x23, 0x30, 0x31, 0x32, 0x33].map
      (decodeWindowWrite 0x0C) =
    [.issueStart, .resultStart, .scrubStart, .alertStart,
     .issueClear, .resultClear, .scrubClear, .alertClear,
     .issuePulse, .resultPulse, .scrubPulse, .alertPulse] ∧
  (∀ code : BitVec 4, decodeWindowWrite 0x0C ((7 : BitVec 4) ++ code) = .interfaceReset code) ∧
  (∀ b : Byte, ignoredFlagByte b = true → decodeWindowWrite 0x0C b = .flagcmdIgnored b) ∧
  (∀ b : BitVec 7, ∀ i, decodeFlagCommand ((0 : BitVec 1) ++ b) = i →
    (∀ x, i ≠ .flagcmdIgnored x) → decodeFlagCommand ((1 : BitVec 1) ++ b) = i) ∧
  (∀ b : Byte,
    [0x00, 0x01, 0x02, 0x03, 0x04, 0x05, 0x06, 0x07, 0x08, 0x0D].map (decodeWindowWrite · b) =
      [.stagingWrite .kind b, .stagingWrite .tag b, .stagingWrite .aliasNo b,
       .stagingWrite .raddrH b, .stagingWrite .raddrL b, .stagingWrite .value b,
       .stagingWrite .mask b, .stagingWrite .option b, .stagingWrite .rstval b, .idisWrite b]) ∧
  (∀ (o : BitVec 6) (b : Byte), 0x08 < o.toNat → o ≠ 0x0C → o ≠ 0x0D →
    decodeWindowWrite o b = .windowWriteIgnored o b) ∧
  (∀ (o : BitVec 6) (b : Byte), (decodeWindowWrite o b).wellFormed = true) ∧
  ∀ s : State,
    (∀ b, exec (.flagcmdIgnored b) s = .next s) ∧
    (∀ o b, exec (.windowWriteIgnored o b) s = .next s) ∧
    exec .issuePulse s = .next s ∧ exec .resultPulse s = .next s ∧ exec .alertPulse s = .next s

/-! ### The resets -/

/-- HARDWARE_RESET: the values of R21, R24, R71, R87, R114, R116, R136, R142, R154 and R166, from
any state. The QUIET and RESETn inputs are pins (log 1, 2). -/
def Obligations.HardwareResetValues : Prop :=
  ∀ (cause : ResetCause) (s : State), ∃ t, exec (.hardwareReset cause) s = .next t ∧
    t.image = { entries := [], signature := 0xFFFF, reference := none, tableFault := false,
                checks := 0 } ∧
    (∀ a, t.target a = none) ∧
    t.scrub = { state := .idle, cursor := none, current := none, stale := false,
                stopRequested := false, passCount := 0, repair := none, restore := none,
                timer := none } ∧
    t.command = none ∧
    (∀ p, t.port p = { state := .idle, flight := none, waiting := [], passedOver := 0,
                       recovery := none }) ∧
    t.queue = [] ∧ t.completions = [] ∧ t.log = { records := [], nextSequence := 0 } ∧
    (∀ w, stagedGet t.staging w = 0) ∧
    t.settings = { scrubMode := 0, scrubInterval := 10, failThreshold := 4, repairLimit := 3,
                   stretchLimit := 8, port0Speed := 0, port1Speed := 0 } ∧
    (∀ x, t.busyFlag x = false ∧ t.doneFlag x = false ∧ t.disableFlag x = true) ∧
    t.irqAsserted = false ∧ t.faultAsserted = false ∧
    t.quiet = s.quiet ∧ t.resetnLow = (if cause = .resetnLow then true else s.resetnLow) ∧
    t.pending = s.pending

/-- While RESETn is low the part answers no access, and no command changes it but the resets, the
rise of RESETn and the QUIET input (log 2); it drives no data. RESETn rising changes nothing else. -/
def Obligations.ResetnLowHoldsThePart : Prop :=
  (∀ (i : Instr) (s : State), s.resetnLow = true → (∀ cause, i ≠ .hardwareReset cause) →
    i ≠ .resetnRise → i ≠ .quietAssert → i ≠ .quietRelease → exec i s = .next s) ∧
  (∀ s : State, s.resetnLow = true → ∀ o, s.readWindow o = none) ∧
  ∀ s : State, exec .resetnRise s = .next { s with resetnLow := false }

/-- INTERFACE_RESET, whatever its section code, block by block: R22, R50, R86, R104, R141, R153, R165
and R178. -/
def Obligations.InterfaceResetEffects : Prop :=
  ∀ (code : BitVec 4) (s : State), s.resetnLow = false →
    ∃ t, exec (.interfaceReset code) s = .next t ∧
      (∀ k, t.entry k = (s.entry k).map fun e =>
        { e with state := if e.state = .pending then .unseen
                          else if e.state = .repairing then .drifted else e.state }) ∧
      t.image.entries.length = s.image.entries.length ∧
      t.image.signature = s.image.signature ∧ t.image.reference = s.image.reference ∧
      t.image.tableFault = s.image.tableFault ∧ t.image.checks = s.image.checks ∧
      (∀ a, t.target a = (s.target a).map fun x =>
        { x with state := if x.state = .restoring then .online else x.state, restorer := none }) ∧
      t.scrub = { State.reset.scrub with passCount := s.scrub.passCount } ∧
      t.command = none ∧ t.queue = [] ∧ t.completions = [] ∧
      t.log = { records := [], nextSequence := s.log.nextSequence } ∧
      (∀ p, t.port p = { s.port p with
        flight := (s.port p).flight.map fun f => { f with discarded := true }
        waiting := [], passedOver := 0
        recovery := (s.port p).recovery.map fun r => { r with discarded := true } }) ∧
      (∀ x, t.busyFlag x = false ∧ t.doneFlag x = false ∧ t.disableFlag x = false) ∧
      t.irqAsserted = false ∧ t.faultAsserted = s.faultAsserted ∧
      t.staging = s.staging ∧ t.settings = s.settings ∧ t.quiet = s.quiet ∧
      t.resetnLow = false ∧ t.pending = s.pending ∧ t.choices = s.choices

/-! ### The ISSUE, RESULT and ALERT sections, the staging bytes and IDIS -/

/-- The host's side, command by command. ISSUE_START, in its three cases, and ISSUE_CLEAR, which
withdraws a waiting submission and keeps the staging bytes (R115, R168, R170). RESULT_START,
RESULT_CLEAR, ALERT_START and ALERT_CLEAR: the head leaves, or all records leave, while the executor's
command with its reservation and the next sequence number stay (R150, R151, R163, R164). STAGING_WRITE
stores the one byte while ISSUE.Busy is 0 and is ignored while it is 1; IDIS_WRITE sets the four
Disable flags to bits 0 to 3 of the byte, also while ISSUE.Busy is 1 (R169, R174, R181, R184). Nothing
else changes: that the executor's take of a command, where one of these makes its conditions hold, is a
step of its own is the model's choice (log 5). -/
def Obligations.HostSideCommands : Prop :=
  ∀ s : State, s.resetnLow = false →
    (s.sections.issueBusy = true → exec .issueStart s = .next s) ∧
    (s.sections.issueBusy = false → s.queue.length < 16 →
      exec .issueStart s = .next { s with
        queue := s.queue ++ [s.staging]
        sections := { s.sections with issueDone := true } }) ∧
    (s.sections.issueBusy = false → 16 ≤ s.queue.length →
      exec .issueStart s = .next { s with
        sections := { s.sections with issueBusy := true, issueDone := false } }) ∧
    exec .issueClear s = .next { s with
      sections := { s.sections with issueBusy := false, issueDone := false } } ∧
    exec .resultStart s = .next { s with completions := s.completions.drop 1 } ∧
    exec .resultClear s = .next { s with completions := [] } ∧
    exec .alertStart s = .next { s with log := { s.log with records := s.log.records.drop 1 } } ∧
    exec .alertClear s = .next { s with log := { s.log with records := [] } } ∧
    ∀ (w : StagingByte) (b : Byte),
      (s.sections.issueBusy = true → exec (.stagingWrite w b) s = .next s) ∧
      (s.sections.issueBusy = false →
        ∃ t, exec (.stagingWrite w b) s = .next t ∧ t = { s with staging := t.staging } ∧
          stagedGet t.staging w = b ∧
          ∀ w', w' ≠ w → stagedGet t.staging w' = stagedGet s.staging w') ∧
      ∃ t, exec (.idisWrite b) s = .next t ∧
        t = { s with sections := { s.sections with disable := t.sections.disable } } ∧
        t.disableFlag .issue = b.getLsbD 0 ∧ t.disableFlag .result = b.getLsbD 1 ∧
        t.disableFlag .scrub = b.getLsbD 2 ∧ t.disableFlag .alert = b.getLsbD 3 ∧
        t.windowByte 0x0D = b &&& 0x0F

/-- The register window as it reads, byte by byte (R180, R181, R183 to R187): the staging bytes;
SECTSTAT with the Done and Busy flag of each section; IDIS, FAULTSUM and IDENT; the presented
completion record, or 0; the presented drift record, an absent field 0, or 0; the levels, the Scrub
Engine's state, the pass count, the signature, the reference and its check count, the entry count,
PORTSTATE and QCOUNT; 0 at every unassigned offset. With it the codes of R183 and R187 and the layouts
of the entry and place details of R186. -/
def Obligations.WindowShowsTheState : Prop :=
  (∀ s : State,
    ([0x00, 0x01, 0x02, 0x03, 0x04, 0x05, 0x06, 0x07, 0x08].map s.windowByte =
      [s.staging.kind, s.staging.body.tag, s.staging.body.aliasNo, s.staging.body.raddrH,
       s.staging.body.raddrL, s.staging.body.value, s.staging.body.mask, s.staging.body.option,
       s.staging.body.rstval]) ∧
    ([0, 1, 2, 3, 4, 5, 6, 7].map (s.windowByte 0x0C).getLsbD =
      [s.sections.issueDone, s.sections.issueBusy, !s.completions.isEmpty, s.command.isSome,
       s.sections.scrubDone, s.scrub.state != .idle, !s.log.records.isEmpty,
       s.log.records.length == 32]) ∧
    ([0, 1, 2, 3, 4, 5, 6, 7].map (s.windowByte 0x0D).getLsbD =
      [s.sections.disable.getLsbD 0, s.sections.disable.getLsbD 1, s.sections.disable.getLsbD 2,
       s.sections.disable.getLsbD 3, false, false, false, false]) ∧
    s.windowByte 0x0E = s.faultSummary ∧ s.windowByte 0x0F = 0x41 ∧
    (∀ r rest, s.completions = r :: rest →
      [0x10, 0x11, 0x12, 0x13, 0x14, 0x15, 0x16, 0x17, 0x18, 0x19, 0x1A, 0x1B].map s.windowByte =
        [r.tag, r.kind, statusCode r.status, r.aliasNo, r.addr.extractLsb' 8 8,
         r.addr.extractLsb' 0 8, r.value, r.expected, r.mask, r.detail, r.count.extractLsb' 8 8,
         r.count.extractLsb' 0 8]) ∧
    (s.completions = [] → ∀ o : BitVec 6, 0x10 ≤ o.toNat → o.toNat ≤ 0x1B → s.windowByte o = 0) ∧
    (∀ r rest, s.log.records = r :: rest →
      [0x20, 0x21, 0x22, 0x23, 0x24, 0x25, 0x26, 0x27, 0x28, 0x29].map s.windowByte =
        [r.sequence.extractLsb' 8 8, r.sequence.extractLsb' 0 8, driftCode r.kind, r.who.getD 0,
         (r.addr.getD 0).extractLsb' 8 8, (r.addr.getD 0).extractLsb' 0 8, r.expected.getD 0,
         r.observed.getD 0, r.pass.extractLsb' 8 8, r.pass.extractLsb' 0 8]) ∧
    (s.log.records = [] → ∀ o : BitVec 6, 0x20 ≤ o.toNat → o.toNat ≤ 0x29 → s.windowByte o = 0) ∧
    ([0x30, 0x31, 0x32, 0x3F].map s.windowByte =
      [BitVec.ofNat 8 s.queue.length, BitVec.ofNat 8 s.completions.length,
       BitVec.ofNat 8 s.log.records.length, BitVec.ofNat 8 s.quarantineCount]) ∧
    (s.windowByte 0x33 = match s.scrub.state with
      | .idle => 0 | .pacing => 1 | .readWait => 2 | .repairWait => 3 | .verifyWait => 4
      | .restore => 5 | .held => 6 | .quiet => 7) ∧
    s.windowByte 0x34 ++ s.windowByte 0x35 = s.scrub.passCount ∧
    s.windowByte 0x36 ++ s.windowByte 0x37 = s.image.signature ∧
    s.windowByte 0x38 ++ s.windowByte 0x39 = s.image.reference.getD 0 ∧
    s.windowByte 0x3A = (if s.image.reference = none then 0 else 1) ∧
    s.windowByte 0x3B = s.image.checks ∧
    s.windowByte 0x3C ++ s.windowByte 0x3D = BitVec.ofNat 16 s.image.entries.length ∧
    (let code (x : PortState) : BitVec 2 := match x with
      | .idle => 0 | .busy => 1 | .recovering => 2 | .down => 3
     s.windowByte 0x3E =
      (0 : BitVec 2) ++ code s.port1.state ++ (0 : BitVec 2) ++ code s.port0.state) ∧
    (∀ o ∈ [0x09, 0x0A, 0x0B, 0x1C, 0x1D, 0x1E, 0x1F, 0x2A, 0x2B, 0x2C, 0x2D, 0x2E, 0x2F],
      s.windowByte o = 0) ∧
    ∀ o, s.readWindow o = if s.resetnLow then none else some (s.windowByte o)) ∧
  [Status.ok, .restored, .unknownKind, .badArgument, .noTarget, .inUse, .addressClash, .notEmpty,
     .duplicate, .noEntry, .tableFull, .markerTaken, .imaged, .quarantined, .busyTarget, .noResponse,
     .dataRefused, .busTimeout, .portDown, .verifyMismatch].map statusCode =
    (List.range 20).map (BitVec.ofNat 8) ∧
  [DriftKind.mismatch, .cleared, .repaired, .repairFailed, .targetReset, .restoreDone,
     .restoreAbandoned, .quarantined, .portDown, .portUp, .tableFault].map driftCode =
    (List.range' 1 11).map (BitVec.ofNat 8) ∧
  (∀ e : Entry,
    ((entryDetail e).extractLsb' 0 3 = match e.state with
      | .unseen => 0 | .pending => 1 | .clean => 2 | .drifted => 3 | .repairing => 4
      | .failed => 5) ∧
    ((entryDetail e).extractLsb' 3 3 = match e.cls with
      | .watch => 1 | .hold => 2 | .restoreOnly => 3 | .marker => 4) ∧
    (entryDetail e).getLsbD 6 = e.halt ∧ (entryDetail e).getLsbD 7 = e.lastObserved.isSome) ∧
  ∀ (p : PortId) (w : Width), placeDetail p w =
    (if p = .p1 then 0x10 else 0) ||| (if w = .bits16 then 0x20 else 0)

/-! ### The SCRUB section, QUIET and the Pacing Timer -/

/-- SCRUB_CLEAR in every state, SCRUB_START in every state but IDLE, SCRUB_PULSE in every state but
HELD (R34, R35, R36, R46, R47, R172). -/
def Obligations.ScrubFlagCommandsByState : Prop :=
  ∀ s : State, s.resetnLow = false →
    (s.scrub.state = .idle ∨ s.scrub.state = .held ∨ s.scrub.state = .quiet →
      exec .scrubClear s = .next { s with
        scrub := { State.reset.scrub with passCount := s.scrub.passCount }
        sections := { s.sections with scrubDone := false } }) ∧
    (s.scrub.state ≠ .idle → s.scrub.state ≠ .held → s.scrub.state ≠ .quiet →
      exec .scrubClear s = .next { s with
        scrub := { s.scrub with stopRequested := true }
        sections := { s.sections with scrubDone := false } }) ∧
    (s.scrub.state ≠ .idle →
      exec .scrubStart s = .next { s with sections := { s.sections with scrubDone := false } }) ∧
    (s.scrub.state ≠ .held → exec .scrubPulse s = .next s)

/-- A pass start with a present reference that differs from the signature, at a SCRUB_START in IDLE, at
an expiry with the cursor at "start", or at a release of QUIET with the cursor there: the check count
goes up, TABLE_FAULT is latched with its record, and the engine goes IDLE with SCRUB.Done 1, the cursor
at "start" and the pass count unchanged (R28, R32, R33, R35, R111). -/
def Obligations.SelfCheckStopsThePass : Prop :=
  ∀ (s : State) (ref : Half), s.resetnLow = false → s.atRest = true →
    s.image.reference = some ref → ref ≠ s.image.signature →
    let stopped : State := { s with
      image := { s.image with tableFault := true, checks := s.image.checks + 1 }
      scrub := { State.reset.scrub with passCount := s.scrub.passCount }
      log := { records := if s.log.records.length < 32 then s.log.records ++
                   [{ sequence := s.log.nextSequence, kind := .tableFault, who := none, addr := none,
                      expected := some (highByte ref), observed := some (highByte s.image.signature),
                      pass := s.scrub.passCount }] else s.log.records
               nextSequence := s.log.nextSequence + 1 }
      sections := { s.sections with scrubDone := true } }
    (s.scrub.state = .idle → s.quiet = false → exec .scrubStart s = .next stopped) ∧
    (s.scrub.state = .pacing → s.scrub.timer.isSome = true → s.scrub.cursor = none →
      s.scrub.stopRequested = false → s.quiet = false → exec .pacingExpiry s = .next stopped) ∧
    (s.scrub.state = .quiet → s.scrub.cursor = none →
      exec .quietRelease s = .next { stopped with quiet := false })

/-- A search that finds no eligible entry above the cursor ends the pass without any bus transaction:
the pass count goes up by one and SCRUB_MODE decides between IDLE with SCRUB.Done 1 and the Pacing
Timer. So it is at a SCRUB_START in IDLE, at an expiry and at a release of QUIET; with the cursor at
"start" the self-check comes first, and here it passes (R25, R28, R29, R30, R32, R33). -/
def Obligations.PassEndsWhenNothingIsEligible : Prop :=
  ∀ s : State, s.resetnLow = false → s.atRest = true →
    (∀ e ∈ s.image.entries, keyAbove s.scrub.cursor e.key = true → s.eligible e = false) →
    (s.scrub.cursor = none → s.selfCheckPasses) →
    let single : Bool := s.settings.scrubMode != 1
    let stopped : ScrubEngine := { State.reset.scrub with passCount := s.scrub.passCount + 1 }
    let t : State := if s.scrub.cursor = none then s.checked else s
    let ended : State :=
      if single then { t with
        scrub := stopped, sections := { s.sections with scrubDone := true } }
      else State.paced { t with
        scrub := { s.scrub with cursor := none, passCount := s.scrub.passCount + 1 } }
    (s.scrub.state = .idle → s.scrub.cursor = none → s.quiet = false →
      exec .scrubStart s = .next (
        if single then { s.checked with
          scrub := stopped, sections := { s.sections with scrubDone := true } }
        else { s.checked with
          scrub := { stopped with state := .pacing, timer := some s.settings.scrubInterval }
          sections := { s.sections with scrubDone := false } })) ∧
    (s.scrub.state = .pacing → s.scrub.timer.isSome = true → s.scrub.stopRequested = false →
      s.quiet = false → exec .pacingExpiry s = .next ended) ∧
    (s.scrub.state = .quiet → exec .quietRelease s = .next { ended with quiet := false })

/-- The search takes the eligible entry with the lowest key above the cursor, and with the port of its
target free the scrub read goes onto the bus: at a SCRUB_START in IDLE, the cursor at "start"; at an
expiry with no stop requested and QUIET released; and at a release of QUIET. With the cursor at "start"
a pass starts there and its self-check passes (R25, R26, R28, R32, R33, R35, R38). -/
def Obligations.SearchTakesTheNextEntry : Prop :=
  ∀ (s : State) (e : Entry) (x : Target), s.resetnLow = false → s.atRest = true →
    s.target e.key.aliasNo = some x → s.portFree x.port = true →
    let read := formedFlight .scrub e.key.aliasNo x.busAddr (s.busTiming x.port)
      (.read e.key.addr x.width)
    (s.scrub.state = .idle → s.quiet = false → s.selfCheckPasses →
      s.nextEntry none s.eligible = some e →
      exec .scrubStart s = .next (State.inFlight
        { s.checked with
          scrub := { State.reset.scrub with
            state := .readWait, cursor := some e.key, current := some e.key
            passCount := s.scrub.passCount }
          sections := { s.sections with scrubDone := false } } x.port read)) ∧
    ((s.scrub.cursor = none → s.selfCheckPasses) →
      s.nextEntry s.scrub.cursor s.eligible = some e →
      let t : State := if s.scrub.cursor = none then s.checked else s
      (s.scrub.state = .pacing → s.scrub.timer.isSome = true → s.scrub.stopRequested = false →
        s.quiet = false →
        exec .pacingExpiry s = .next (State.inFlight
          { t with scrub := { s.scrub with
              state := .readWait, cursor := some e.key, current := some e.key, stale := false
              timer := none } } x.port read)) ∧
      (s.scrub.state = .quiet →
        exec .quietRelease s = .next (State.inFlight
          { t with
            quiet := false
            scrub := { s.scrub with
              state := .readWait, cursor := some e.key, current := some e.key, stale := false } }
          x.port read)))

/-- An expiry stops an engine that was asked to stop, and otherwise enters QUIET while the input is
asserted, as a SCRUB_START in IDLE does. Without a running timer an expiry leaves the state as it is
(the model's choice, log 12). QUIET_ASSERT, and QUIET_RELEASE in any state but QUIET, move the level of
the input and nothing else (R32, R33, R35, R36). -/
def Obligations.StopAndQuietAtTheirMoments : Prop :=
  ∀ s : State, s.resetnLow = false → s.atRest = true →
    (s.scrub.state = .pacing → s.scrub.timer.isSome = true → s.scrub.stopRequested = true →
      exec .pacingExpiry s = .next { s with
        scrub := { State.reset.scrub with passCount := s.scrub.passCount }
        sections := { s.sections with scrubDone := false } }) ∧
    (s.scrub.state = .pacing → s.scrub.timer.isSome = true → s.scrub.stopRequested = false →
      s.quiet = true →
      exec .pacingExpiry s = .next { s with
        scrub := { s.scrub with state := .quiet, current := none, timer := none } }) ∧
    (s.scrub.state = .idle → s.quiet = true →
      exec .scrubStart s = .next { s with
        scrub := { State.reset.scrub with state := .quiet, passCount := s.scrub.passCount }
        sections := { s.sections with scrubDone := false } }) ∧
    (s.scrub.state ≠ .pacing ∨ s.scrub.timer = none → exec .pacingExpiry s = .next s) ∧
    exec .quietAssert s = .next { s with quiet := true } ∧
    (s.scrub.state ≠ .quiet → exec .quietRelease s = .next { s with quiet := false })

/-- SCRUB_PULSE in HELD: a held HOLD entry that is still DRIFTED, unchanged, of an ONLINE target is
repaired, first by a write for mask 0xFF and by a base read for any other (the port of the target being
free); in every other case the engine starts the Pacing Timer (R46, R48, R51). -/
def Obligations.PulseEndsTheHold : Prop :=
  ∀ s : State, s.resetnLow = false → s.atRest = true → s.scrub.state = .held →
    let held := s.scrub.current.bind s.entry
    let repairable (e : Entry) := s.scrub.stale = false ∧ e.cls = .hold ∧ e.state = .drifted ∧
      s.isOnline e.key.aliasNo = true
    ((∀ e, held = some e → ¬repairable e) →
      exec .scrubPulse s = .next (s.withScrubDone false).paced) ∧
    ∀ e x, held = some e → repairable e → s.target e.key.aliasNo = some x →
      s.portFree x.port = true →
      exec .scrubPulse s = .next (State.inFlight
        { s.withScrubDone false with
          image := { s.image with entries := s.image.entries.map fun y =>
            if y.key = e.key then { y with state := .repairing } else y }
          scrub := { s.scrub with
            state := .repairWait
            repair := some { base := none, step := if e.mask = 0xFF then .write else .baseRead } } }
        x.port (formedFlight .scrub e.key.aliasNo x.busAddr (s.busTiming x.port)
          (if e.mask = 0xFF then .write e.key.addr x.width e.expected
           else .read e.key.addr x.width)))

/-! ### The take and validation -/

/-- COMMAND_TAKE when it is due: the head leaves the queue, a submission waiting at ISSUE is accepted
in the same event, and the command either is the current command or has left exactly one record, with
its tag and kind, at the tail of the Completion Queue. With the executor busy, no record in the queue,
or no slot to reserve, no take comes about (R115, R117, R120, R169). That COMMAND_TAKE and the row of
the head's KIND, UNKNOWN_KIND for a KIND that is not assigned (R182), are one and the same take, and a
step of its own, is the model's choice (log 5). -/
def Obligations.TakeMovesTheQueue : Prop :=
  (∀ (c : Staged) (s : State), s.resetnLow = false → s.canTake = true → s.queue.head? = some c →
    ∃ t, exec .commandTake s = .next t ∧
      t.queue = s.queue.drop 1 ++ (if s.sections.issueBusy then [s.staging] else []) ∧
      t.sections.issueBusy = false ∧
      t.sections.issueDone = (s.sections.issueDone || s.sections.issueBusy) ∧
      t.staging = s.staging ∧
      ((∃ g, t.command = some { staged := c, progress := g } ∧ t.completions = s.completions) ∨
       (∃ r, t.command = none ∧ t.completions = s.completions ++ [r] ∧ r.tag = c.body.tag ∧
          r.kind = c.kind))) ∧
  (∀ s : State, s.command.isSome = true ∨ s.queue = [] ∨ 16 ≤ s.completions.length →
    exec .commandTake s = .next s) ∧
  ∀ (c : Staged) (s : State), s.queue.head? = some c →
    exec .commandTake s = exec (rowOf c) s ∧ (rowOf c).wellFormed = true

/-- Validation: a KIND that is not assigned is refused with UNKNOWN_KIND, and of steps 2 to 5 the first
that fails refuses the command with its status. Nothing changes beyond the record, which carries the
tag, the kind, the ALIAS byte and the register address as staged (R118, R119, R144). The fields that
each kind uses are in range as the table of R119 and the OPTION layouts of R182 say, a setting's value
as the table of R136 says; steps 3 to 5 apply to the kinds that the table of R118 lists. -/
def Obligations.ValidationRefusesInOrder : Prop :=
  (∀ (k : CommandKind) (b : CmdBytes), fieldsInRange k b = true ↔
    (k ∉ [.set, .commit, .portReset] → b.aliasNo.toNat ≤ 15) ∧
    (k = .attach → 0x08 ≤ b.value.toNat ∧ b.value.toNat ≤ 0x77 ∧
      (b.option.extractLsb' 0 2 = 0 ∨ b.option.extractLsb' 0 2 = 1) ∧
      (b.option.extractLsb' 4 2 = 1 ∨ b.option.extractLsb' 4 2 = 2)) ∧
    (k = .define → b.mask ≠ 0 ∧ 1 ≤ (b.option.extractLsb' 0 3).toNat ∧
      (b.option.extractLsb' 0 3).toNat ≤ 4) ∧
    (k = .queryEntry ∨ k = .commit →
      b.option.extractLsb' 0 2 = 1 ∨ b.option.extractLsb' 0 2 = 2) ∧
    (k = .portReset → b.value.toNat ≤ 1) ∧
    (k = .set →
      ∃ row ∈ [(1, 0, 1), (2, 0, 255), (3, 1, 15), (4, 1, 7), (5, 1, 15), (6, 0, 1), (7, 0, 1)],
        b.aliasNo.toNat = row.1 ∧ row.2.1 ≤ b.value.toNat ∧ b.value.toNat ≤ row.2.2)) ∧
  (∀ k : CommandKind,
    (needsTarget k = true ↔ k ∈ [.detach, .define, .update, .retire, .read, .write, .restore, .verify,
      .release, .queryTarget]) ∧
    (refusesQuarantined k = true ↔
      k ∈ [.define, .update, .retire, .read, .write, .restore, .verify]) ∧
    (refusesRestorer k = true ↔ k ∈ [.detach, .restore, .verify])) ∧
  ∀ (b : CmdBytes) (s : State),
    let refused (kind : Byte) (st : Status) := s.afterTake.answered
      { tag := b.tag, kind := kind, status := st, aliasNo := b.aliasNo,
        addr := joinBytes b.raddrH b.raddrL, value := 0, expected := 0, mask := 0, detail := 0,
        count := 0 }
    (∀ k, kindOf k = none → s.readyFor { kind := k, body := b } = true →
      exec (.unknownKind k b) s = .next (refused k .unknownKind)) ∧
    ∀ k st, s.readyFor (stagedOf k b) = true →
      firstFailing
        [(fieldsInRange k b, .badArgument),
         (!needsTarget k || (s.target (slotOf b)).isSome, .noTarget),
         (!(refusesQuarantined k && s.isQuarantined (slotOf b)), .quarantined),
         (!(refusesRestorer k && ((s.target (slotOf b)).bind (·.restorer)).isSome), .busyTarget)] =
        some st →
      exec (rowOf (stagedOf k b)) s = .next (refused (kindCode k) st)

/-- The step-6 checks of each kind, in their order, after steps 2 to 5 have passed (R118, R123 to R126,
R128, R130 to R132, R139). -/
def Obligations.StepSixRefusesInOrder : Prop :=
  ∀ (k : CommandKind) (b : CmdBytes) (s : State) (st : Status),
    s.readyFor (stagedOf k b) = true → s.refusal k b = none →
    firstFailing (stepSix s k b) = some st →
    exec (rowOf (stagedOf k b)) s = .next (s.afterTake.answered
      { tag := b.tag, kind := kindCode k, status := st, aliasNo := b.aliasNo,
        addr := joinBytes b.raddrH b.raddrL, value := 0, expected := 0, mask := 0, detail := 0,
        count := 0 })

/-! ### Commands about targets -/

/-- ATTACH of a FREE slot at a free place: at a free port its PROBE goes onto the bus, the slot staying
FREE meanwhile; at a BUSY or RECOVERING port the request waits; and a DOWN port answers it at once,
which ends the command PORT_DOWN with the slot still FREE (R72, R88, R97, R99, R123, R146). -/
def Obligations.AttachProbes : Prop :=
  ∀ (b : CmdBytes) (s : State) (p : PortId) (w : Width),
    s.readyFor (stagedOf .attach b) = true → aliasInRange b = true → busAddrInRange b.value = true →
    optionPort b.option = some p → optionWidth b.option = some w →
    s.target (slotOf b) = none → s.addressTaken p (busAddrOf b.value) = false →
    let t := s.afterTake.working (stagedOf .attach b) .probe
    (s.portFree p = true →
      exec (.attach b) s = .next (t.inFlight p
        (formedFlight .executor (slotOf b) (busAddrOf b.value) (s.busTiming p) .probe))) ∧
    ((s.port p).state = .busy ∨ (s.port p).state = .recovering →
      exec (.attach b) s = .next (t.setPort p
        { s.port p with waiting := (s.port p).waiting ++ [.executor] })) ∧
    ((s.port p).state = .down →
      exec (.attach b) s = .next (s.afterTake.answered
        { tag := b.tag, kind := 0x11, status := .portDown, aliasNo := b.aliasNo, addr := 0
          value := b.value, expected := 0, mask := 0, detail := placeDetail p w, count := 0 }))

/-- The probe of an ATTACH ends on the bus: DONE fills the slot with an ONLINE record; an address not
acknowledged, SCL held low for STRETCH_LIMIT, or a line held low for it in the start check leaves it
FREE and completes the command NO_RESPONSE or BUS_TIMEOUT, the port then RECOVERING. The outcome is not
counted, and the record reports the place as staged (R72, R91, R93, R94, R96, R123, R146). No other
request waits at the port. -/
def Obligations.ProbeEndDecidesTheSlot : Prop :=
  ∀ (b : CmdBytes) (s : State) (p : PortId) (w : Width) (f : Flight) (v : Byte),
    s.resetnLow = false → s.atRest = true →
    s.command = some { staged := stagedOf .attach b, progress := .probe } →
    optionPort b.option = some p → optionWidth b.option = some w →
    s.port p = { s.port p with state := .busy, flight := some f, waiting := [] } →
    f.requester = .executor → f.form = .probe → f.discarded = false →
    let t (st : Status) := State.answered
      { s with command := none }
      { tag := b.tag, kind := 0x11, status := st, aliasNo := b.aliasNo, addr := 0, value := b.value
        expected := 0, mask := 0, detail := placeDetail p w, count := 0 }
    exec (.transactionEnd p none v) s = .next
      (State.portIdle { t .ok with
        targets := s.targets.set (slotOf b)
          (some { port := p, busAddr := busAddrOf b.value, width := w, state := .online, failures := 0
                  marker := none, restorer := none }) } p) ∧
    exec (.transactionEnd p (some .address) v) s = .next ((t .noResponse).portIdle p) ∧
    ∀ i, (i = .stretchTimeout p ∨ i = .startCheckTimeout p ∧ f.phase = .startCheck) →
      exec i s = .next ((t .busTimeout).setPort p
        { s.port p with
          state := .recovering, flight := none
          recovery := some
            { round := .first, origin := .timeout, timing := s.busTiming p, discarded := false } })

/-- DETACH of an attached alias with no entries and no restorer makes the slot FREE and changes nothing
else. RELEASE returns a QUARANTINED target that no engine works on to ONLINE with 0 failures and its
compared entries UNSEEN, and leaves an ONLINE or RESTORING one as it is (R18, R74, R84, R124, R125,
R146). -/
def Obligations.DetachAndRelease : Prop :=
  ∀ (b : CmdBytes) (s : State) (x : Target), aliasInRange b = true →
    s.target (slotOf b) = some x →
    (s.readyFor (stagedOf .detach b) = true → x.restorer = none → s.entriesOf (slotOf b) = [] →
      exec (.detach b) s = .next (State.answered
        { s.afterTake with targets := s.targets.set (slotOf b) none }
        { completionOf (stagedOf .detach b) .ok with aliasNo := b.aliasNo })) ∧
    (s.readyFor (stagedOf .release b) = true →
      (x.state = .quarantined → x.restorer = none → s.repairing (slotOf b) = false →
        exec (.release b) s = .next (State.answered
          { s.afterTake with
            targets := s.targets.set (slotOf b) (some { x with state := .online, failures := 0 })
            image := { s.image with entries := s.image.entries.map fun e =>
              if e.key.aliasNo = slotOf b ∧ e.cls ≠ .restoreOnly then { e with state := .unseen }
              else e } }
          { completionOf (stagedOf .release b) .ok with aliasNo := b.aliasNo, value := 1 })) ∧
      (x.state ≠ .quarantined →
        exec (.release b) s = .next (s.afterTake.answered
          { completionOf (stagedOf .release b) .ok with aliasNo := b.aliasNo, value := 0 })))

/-- QUERY_TARGET answers from the record as it stands (R85, R140, R146, R186). QUERY_ENTRY: EXACT
answers with the entry of the staged key, NEXT with the entry of the lowest key above it, whatever
alias and address were staged; with no such entry it completes NO_ENTRY (R20, R139, R145). Nothing else
changes. -/
def Obligations.QueriesAnswer : Prop :=
  (∀ (b : CmdBytes) (s : State) (x : Target), s.readyFor (stagedOf .queryTarget b) = true →
    aliasInRange b = true → s.target (slotOf b) = some x →
    ∃ r, exec (.queryTarget b) s = .next (s.afterTake.answered r) ∧
      r.tag = b.tag ∧ r.kind = 0x14 ∧ r.status = .ok ∧ r.aliasNo = b.aliasNo ∧ r.addr = 0 ∧
      r.mask = 0 ∧ r.value = x.busAddr.setWidth 8 ∧ r.expected = BitVec.ofNat 8 x.failures ∧
      r.count = BitVec.ofNat 16
        (s.image.entries.countP fun e => e.key.aliasNo == slotOf b) ∧
      r.detail.extractLsb' 0 2 = (match x.state with
        | .online => 1
        | .restoring => 2
        | .quarantined => 3) ∧
      (r.detail.getLsbD 4 = true ↔ x.port = .p1) ∧ (r.detail.getLsbD 5 = true ↔ x.width = .bits16) ∧
      (r.detail.getLsbD 6 = true ↔ x.marker.isSome = true) ∧
      r.detail &&& 0x8C = 0) ∧
  ∀ (b : CmdBytes) (s : State), s.readyFor (stagedOf .queryEntry b) = true →
    KeysRise s.image.entries → aliasInRange b = true →
    let found (e : Entry) := exec (.queryEntry b) s = .next (s.afterTake.answered
      { completionOf (stagedOf .queryEntry b) .ok with
        aliasNo := BitVec.ofNat 8 e.key.aliasNo.val, addr := e.key.addr
        value := e.lastObserved.getD 0, expected := e.expected, mask := e.mask
        detail := entryDetail e, count := BitVec.ofNat 16 e.drifts })
    let missing := exec (.queryEntry b) s = .next (s.afterTake.answered
      { completionOf (stagedOf .queryEntry b) .noEntry with
        aliasNo := b.aliasNo, addr := addrOf b })
    (b.option.extractLsb' 0 2 = 1 →
      (∀ e ∈ s.image.entries, e.key = keyOf b → found e) ∧
      ((∀ e ∈ s.image.entries, e.key ≠ keyOf b) → missing)) ∧
    (b.option.extractLsb' 0 2 = 2 →
      (∀ e ∈ s.image.entries, keyRank (keyOf b) < keyRank e.key →
        (∀ y ∈ s.image.entries, keyRank (keyOf b) < keyRank y.key →
          keyRank e.key ≤ keyRank y.key) → found e) ∧
      ((∀ e ∈ s.image.entries, keyRank e.key ≤ keyRank (keyOf b)) → missing))

/-! ### Commands about entries -/

/-- DEFINE that passes its checks inserts the entry in key order with the staged fields and the initial
values of R3, recomputes the signature and, for a MARKER, sets the target's marker. Without APPLY it
completes OK at once; with APPLY, its base read, or its write for mask 0xFF, goes onto the bus of a
free port, and the request waits at a BUSY or RECOVERING one (R3, R4, R9, R43, R75, R108, R99, R126,
R127, R145). -/
def Obligations.DefineInserts : Prop :=
  ∀ (b : CmdBytes) (s : State) (x : Target) (cls : EntryClass),
    s.readyFor (stagedOf .define b) = true → s.refusal .define b = none →
    firstFailing (stepSix s .define b) = none →
    s.target (slotOf b) = some x → optionClass b.option = some cls →
    let e : Entry :=
      { key := keyOf b, expected := b.value, mask := b.mask, cls := cls, halt := b.option.getLsbD 4
        resetValue := if cls = .marker then some b.rstval else none
        state := if b.option.getLsbD 5 = true ∧ cls ≠ .restoreOnly then .pending else .unseen
        attempts := 0, lastObserved := none, drifts := 0 }
    let es := insertEntry e s.image.entries
    let t : State := { s.afterTake with
      image := { s.image with entries := es, signature := signatureOf es }
      targets := if cls = .marker then
          s.targets.set (slotOf b) (some { x with marker := some (addrOf b) }) else s.targets
      scrub := if s.scrub.current = some (keyOf b) then { s.scrub with stale := true } else s.scrub }
    (b.option.getLsbD 5 = false →
      exec (.define b) s = .next (t.answered
        { completionOf (stagedOf .define b) .ok with
          aliasNo := b.aliasNo, addr := addrOf b, expected := b.value, mask := b.mask
          detail := entryDetail e })) ∧
    let u := t.working (stagedOf .define b)
      (.apply (if b.mask = 0xFF then .write else .baseRead) none)
    (b.option.getLsbD 5 = true → s.portFree x.port = true →
      exec (.define b) s = .next (u.inFlight x.port
        (formedFlight .executor (slotOf b) x.busAddr (s.busTiming x.port)
          (if b.mask = 0xFF then .write (addrOf b) x.width b.value else .read (addrOf b) x.width)))) ∧
    (b.option.getLsbD 5 = true →
      (s.port x.port).state = .busy ∨ (s.port x.port).state = .recovering →
      exec (.define b) s = .next (u.setPort x.port
        { s.port x.port with waiting := (s.port x.port).waiting ++ [.executor] }))

/-- UPDATE that passes is taken at once, whatever state the port of its target is in: expected
replaced, mask replaced or kept for 0, PENDING unless RESTORE_ONLY, attempts 0, last observed absent,
signature recomputed, stale mark set for the Scrub Engine's current entry, its read perhaps on the bus;
class, halt, reset value and drift count stay. At a free port its base read, or its write for mask
0xFF, goes onto the bus; at a BUSY or RECOVERING one the request waits; a DOWN one ends the command
PORT_DOWN at once, the entry UNSEEN unless RESTORE_ONLY and the failure counted (R10, R11, R43, R97,
R99, R108, R128, R129); that this report meets the slot's own place is the model's inference (log 7).
The failure of the last clause does not reach FAIL_THRESHOLD. -/
def Obligations.UpdateIsTakenAtOnce : Prop :=
  ∀ (b : CmdBytes) (s : State) (x : Target) (e : Entry),
    s.readyFor (stagedOf .update b) = true → s.refusal .update b = none →
    firstFailing (stepSix s .update b) = none →
    s.target (slotOf b) = some x → s.entry (keyOf b) = some e →
    let m := if b.mask = 0 then e.mask else b.mask
    let e' : Entry :=
      { e with
        expected := b.value, mask := m
        state := if e.cls = .restoreOnly then e.state else .pending
        attempts := 0, lastObserved := none }
    let failed : Entry := { e' with state := if e.cls = .restoreOnly then e.state else .unseen }
    let swap (y' : Entry) : List Entry := s.image.entries.map fun y => if y.key = keyOf b then y' else y
    let taken (es : List Entry) : State := { s.afterTake with
      image := { s.image with entries := es, signature := signatureOf es }
      scrub := if s.scrub.current = some (keyOf b) then { s.scrub with stale := true } else s.scrub }
    let u := (taken (swap e')).working (stagedOf .update b)
      (.apply (if m = 0xFF then .write else .baseRead) none)
    (s.portFree x.port = true →
      exec (.update b) s = .next (u.inFlight x.port
        (formedFlight .executor (slotOf b) x.busAddr (s.busTiming x.port)
          (if m = 0xFF then .write (addrOf b) x.width b.value else .read (addrOf b) x.width)))) ∧
    ((s.port x.port).state = .busy ∨ (s.port x.port).state = .recovering →
      exec (.update b) s = .next (u.setPort x.port
        { s.port x.port with waiting := (s.port x.port).waiting ++ [.executor] })) ∧
    ((s.port x.port).state = .down → min (x.failures + 1) 15 < s.settings.failThreshold.toNat →
      exec (.update b) s = .next (State.answered
        { taken (swap failed) with
          targets := s.targets.set (slotOf b)
            (some { x with failures := min (x.failures + 1) 15 }) }
        { completionOf (stagedOf .update b) .portDown with
          aliasNo := b.aliasNo, addr := addrOf b, expected := b.value, mask := m
          detail := entryDetail failed }))

/-- RETIRE removes the entry at once whatever its state, recomputes the signature, clears the target's
marker for a MARKER, and sets the stale mark if it is the Scrub Engine's current entry; the record
carries the removed entry's expected value, mask and drift count (R19, R43, R130, R145). -/
def Obligations.RetireRemoves : Prop :=
  ∀ (b : CmdBytes) (s : State) (x : Target) (e : Entry),
    s.readyFor (stagedOf .retire b) = true → s.refusal .retire b = none →
    s.target (slotOf b) = some x → s.entry (keyOf b) = some e →
    let es := s.image.entries.filter fun y => y.key ≠ keyOf b
    exec (.retire b) s = .next (State.answered
      { s.afterTake with
        image := { s.image with entries := es, signature := signatureOf es }
        targets := if e.cls = .marker then
            s.targets.set (slotOf b) (some { x with marker := none }) else s.targets
        scrub := if s.scrub.current = some (keyOf b) then { s.scrub with stale := true }
                 else s.scrub }
      { completionOf (stagedOf .retire b) .ok with
        aliasNo := b.aliasNo, addr := addrOf b, expected := e.expected, mask := e.mask
        count := BitVec.ofNat 16 e.drifts })

/-- READ and WRITE that pass validation make one transaction, whatever state their port is in: at a
free port it goes onto the bus, at a BUSY or RECOVERING one the request waits, and a DOWN one ends the
command PORT_DOWN at once, the failure counted against the target (R79, R80, R97, R99, R121, R131,
R132); that this report meets the slot's own place is the model's inference (log 7). The failure of the
last clause does not reach FAIL_THRESHOLD. -/
def Obligations.ReadAndWriteStart : Prop :=
  ∀ (k : CommandKind) (b : CmdBytes) (s : State) (x : Target),
    k = .read ∨ k = .write → s.readyFor (stagedOf k b) = true → s.refusal k b = none →
    firstFailing (stepSix s k b) = none → s.target (slotOf b) = some x →
    let form : Form := if k = .write then .write (addrOf b) x.width b.value
      else .read (addrOf b) x.width
    let t := s.afterTake.working (stagedOf k b) .direct
    (s.portFree x.port = true →
      exec (if k = .write then .write b else .read b) s = .next (t.inFlight x.port
        (formedFlight .executor (slotOf b) x.busAddr (s.busTiming x.port) form))) ∧
    ((s.port x.port).state = .busy ∨ (s.port x.port).state = .recovering →
      exec (if k = .write then .write b else .read b) s = .next (t.setPort x.port
        { s.port x.port with waiting := (s.port x.port).waiting ++ [.executor] })) ∧
    ((s.port x.port).state = .down → min (x.failures + 1) 15 < s.settings.failThreshold.toNat →
      exec (if k = .write then .write b else .read b) s = .next (State.answered
        { s.afterTake with
          targets := s.targets.set (slotOf b)
            (some { x with failures := min (x.failures + 1) 15 }) }
        { completionOf (stagedOf k b) .portDown with
          aliasNo := b.aliasNo, addr := addrOf b
          value := if k = .write then b.value else 0 }))

/-! ### Commands about whole targets -/

/-- RESTORE claims the target at the take. The first step takes the HOLD or RESTORE_ONLY entry with the
lowest key, or the marker if there is none: its base read, or its write for mask 0xFF, goes onto the
free port. With nothing to write the restore ends complete at the take, with a RESTORE_DONE record and
count 0 (R59, R60, R63, R65, R76, R78, R133). -/
def Obligations.RestoreClaimsAndWalks : Prop :=
  ∀ (b : CmdBytes) (s : State) (x : Target), s.readyFor (stagedOf .restore b) = true →
    s.refusal .restore b = none → s.target (slotOf b) = some x → KeysRise s.image.entries →
    let first : Option (Entry × RestorePhase) :=
      match s.nextEntry none fun e =>
        e.key.aliasNo == slotOf b && (e.cls == .hold || e.cls == .restoreOnly) with
      | some e => some (e, .general)
      | none => (x.marker.bind fun addr =>
          s.entry { aliasNo := slotOf b, addr := addr }).map fun e => (e, .marker)
    (∀ e phase, first = some (e, phase) → s.portFree x.port = true →
      exec (.restore b) s = .next (State.inFlight
        (State.working { s.afterTake with
            targets := s.targets.set (slotOf b)
              (some { x with state := .restoring, restorer := some .executor }) }
          (stagedOf .restore b)
          (.restore
            { aliasNo := slotOf b, phase := phase, lastWritten := none, written := 0
              failedWrites := 0, firstFailure := none, base := none, step := some e.key
              stage := if e.mask = 0xFF then .write else .baseRead } false))
        x.port (formedFlight .executor (slotOf b) x.busAddr (s.busTiming x.port)
          (if e.mask = 0xFF then .write e.key.addr x.width e.expected
           else .read e.key.addr x.width)))) ∧
    (first = none →
      exec (.restore b) s = .next (State.answered
        (State.logDrift { s.afterTake with
            targets := s.targets.set (slotOf b) (some { x with state := .online, restorer := none }) }
          .restoreDone (some b.aliasNo) none none (some 0))
        { completionOf (stagedOf .restore b) .ok with aliasNo := b.aliasNo }))

/-- VERIFY makes no claim: it reads the compared entry with the lowest key of the alias, or completes
OK at the take with count 0 and value 0 if there is none (R134, R135). The target's port is free in the
first case. -/
def Obligations.VerifyReadsTheFirstEntry : Prop :=
  ∀ (b : CmdBytes) (s : State) (x : Target), s.readyFor (stagedOf .verify b) = true →
    s.refusal .verify b = none → s.target (slotOf b) = some x →
    let first := s.nextEntry none fun e => e.key.aliasNo == slotOf b && e.cls != .restoreOnly
    (∀ e, first = some e → s.portFree x.port = true →
      exec (.verify b) s = .next (State.inFlight
        (s.afterTake.working (stagedOf .verify b)
          (.verify { lastRead := none, read := 0, mismatches := 0, firstFailure := none
                     reading := some e.key }))
        x.port (formedFlight .executor (slotOf b) x.busAddr (s.busTiming x.port)
          (.read e.key.addr x.width)))) ∧
    (first = none →
      exec (.verify b) s = .next (s.afterTake.answered
        { completionOf (stagedOf .verify b) .ok with aliasNo := b.aliasNo }))

/-! ### The later steps of UPDATE, DEFINE with APPLY, VERIFY and restores -/

/-- The transactions of an UPDATE or a DEFINE with APPLY, each on the bus of the free port as the one
before it ends: after a base read that ended DONE the merged write, after a write that ended DONE the
verify read. The verify read's DONE settles the entry and completes the command OK or VERIFY_MISMATCH
with the masked value read. A byte not acknowledged ends it with that outcome, the failure counted,
below FAIL_THRESHOLD, and a target found QUARANTINED after a base read or a write ends it QUARANTINED:
a compared entry is then UNSEEN (R8, R11, R79, R80, R102, R121, R127, R129, R145). No other request
waits at the port. -/
def Obligations.ApplyRunsItsTransactions : Prop :=
  ∀ (p : PortId) (s : State) (f : Flight) (k : CommandKind) (b : CmdBytes) (e : Entry) (x : Target)
      (step : WriteStep) (base : Option Byte) (refused : Option SentByte) (o : BusOutcome) (v : Byte),
    s.resetnLow = false → s.atRest = true → KeysRise s.image.entries →
    s.port p = { s.port p with state := .busy, flight := some f, waiting := [] } →
    k = .update ∨ k = .define → f.requester = .executor → f.discarded = false →
    f.aliasNo = slotOf b → f.form = writeStepForm step e base x.width →
    s.command = some { staged := stagedOf k b, progress := .apply step base } →
    s.entry (keyOf b) = some e → s.target (slotOf b) = some x → x.port = p → x.busAddr = f.busAddr →
    let m := v &&& e.mask
    let counted (n : Nat) : State :=
      { s with targets := s.targets.set (slotOf b) (some { x with failures := n }) }
    let goesOn (st : WriteStep) (bs : Option Byte) (form : Form) := State.inFlight
      (((counted 0).working (stagedOf k b) (.apply st bs)).portIdle p) p
      (formedFlight .executor (slotOf b) x.busAddr (s.busTiming p) form)
    let into (n : Nat) (e' : Entry) : State := { counted n with
      image := { s.image with
        entries := s.image.entries.map fun y => if y.key = keyOf b then e' else y } }
    let ended (t : State) (e' : Entry) (st : Status) (value : Byte) := State.portIdle
      (State.answered { t with command := none }
        { completionOf (stagedOf k b) st with
          aliasNo := b.aliasNo, addr := addrOf b, value := value, expected := e.expected
          mask := e.mask, detail := entryDetail e' }) p
    let unseen : Entry := { e with state := if e.cls = .restoreOnly then e.state else .unseen }
    let seen : Entry := { e with lastObserved := some m }
    let clean : Entry := { seen with state := .clean, attempts := 0 }
    let drifted : Entry := { seen with state := .drifted, drifts := min (e.drifts + 1) 255 }
    let matched := m = e.expected &&& e.mask
    (x.state ≠ .quarantined → step = .baseRead →
      exec (.transactionEnd p none v) s = .next (goesOn .write (some v)
        (.write (addrOf b) x.width ((e.expected &&& e.mask) ||| (v &&& ~~~e.mask))))) ∧
    (x.state ≠ .quarantined → step = .write →
      exec (.transactionEnd p none v) s = .next (goesOn .verifyRead base
        (.read (addrOf b) x.width))) ∧
    (x.state = .quarantined → step ≠ .verifyRead →
      exec (.transactionEnd p none v) s =
        .next (ended (into 0 unseen) unseen .quarantined 0)) ∧
    (step = .verifyRead →
      exec (.transactionEnd p none v) s = .next (
        if e.cls = .restoreOnly then
          ended (into 0 seen) seen (if matched then .ok else .verifyMismatch) m
        else if matched then ended (into 0 clean) clean .ok m
        else ended
          ((into 0 drifted).logDrift .mismatch (some (aliasByte (slotOf b))) (some (addrOf b))
            (some e.expected) (some m)) drifted .verifyMismatch m)) ∧
    (endOutcome f.form refused v = some o → o.isDone = false →
      min (x.failures + 1) 15 < s.settings.failThreshold.toNat →
      exec (.transactionEnd p refused v) s =
        .next (ended (into (min (x.failures + 1) 15) unseen) unseen (statusOf o) 0))

/-- A read of a VERIFY ends, and the walk goes on: a DONE is taken as a compare read
(`ReadResultsMoveTheEntry` says how), every outcome is counted, and the compared entry with the next
key is read on the free port, or the VERIFY completes with the first failure, or OK, and its counts. A
target found QUARANTINED, or restored by the Scrub Engine, ends it with QUARANTINED or BUSY_TARGET
(R12, R79, R80, R121, R134, R135, R146). A failure stays below FAIL_THRESHOLD, and no other request
waits at the port. -/
def Obligations.VerifyWalksOn : Prop :=
  ∀ (p : PortId) (s : State) (f : Flight) (b : CmdBytes) (e : Entry) (x : Target)
      (v : VerifyProgress) (refused : Option SentByte) (o : BusOutcome) (w : Byte),
    s.resetnLow = false → s.atRest = true → KeysRise s.image.entries →
    s.port p = { s.port p with state := .busy, flight := some f, waiting := [] } →
    f.requester = .executor → f.discarded = false → f.aliasNo = slotOf b →
    f.form = .read e.key.addr x.width → e.key.aliasNo = slotOf b →
    s.command = some { staged := stagedOf .verify b, progress := .verify v } →
    v.reading = some e.key → s.entry e.key = some e → s.target (slotOf b) = some x → x.port = p →
    x.busAddr = f.busAddr → endOutcome f.form refused w = some o →
    (o.isDone = true → e.atResetValue w = false) →
    let n := if o.isDone then 0 else min (x.failures + 1) 15
    (o.isDone = false → n < s.settings.failThreshold.toNat) →
    let t0 : State := { s with targets := s.targets.set (slotOf b) (some { x with failures := n }) }
    let t : State := if o.isDone then t0.takeCompare e w else t0
    let v' : VerifyProgress :=
      { lastRead := some e.key, read := v.read + 1
        mismatches := if o.isDone = true ∧ w &&& e.mask ≠ e.expected &&& e.mask then
          min (v.mismatches + 1) 255 else v.mismatches
        firstFailure := if o.isDone then v.firstFailure else some (v.firstFailure.getD o)
        reading := none }
    let ended (st : Status) := State.portIdle (State.answered { t with command := none }
      { completionOf (stagedOf .verify b) st with
        aliasNo := b.aliasNo, value := BitVec.ofNat 8 (min v'.mismatches 255)
        count := BitVec.ofNat 16 v'.read }) p
    let next := s.nextEntry (some e.key) fun y =>
      y.key.aliasNo == slotOf b && y.cls != .restoreOnly
    (x.state = .quarantined →
      exec (.transactionEnd p refused w) s = .next (ended .quarantined)) ∧
    (x.state = .restoring → x.restorer = some .scrub →
      exec (.transactionEnd p refused w) s = .next (ended .busyTarget)) ∧
    (x.state = .online →
      (∀ e2, next = some e2 → exec (.transactionEnd p refused w) s = .next (State.inFlight
        ((t.working (stagedOf .verify b) (.verify { v' with reading := some e2.key })).portIdle p) p
        (formedFlight .executor (slotOf b) x.busAddr (s.busTiming p)
          (.read e2.key.addr x.width)))) ∧
      (next = none → exec (.transactionEnd p refused w) s = .next (ended
        (match v'.firstFailure with
         | some first => statusOf first
         | none => .ok))))

/-- A marker read at its reset value, by a scrub read that is not stale or by a VERIFY: of an ONLINE
target it is a claim. Last observed takes the masked value and nothing else of the entry moves, the
target is RESTORING by the engine that read, a TARGET_RESET record is made, and the restore's first
step goes onto the free port: the HOLD or RESTORE_ONLY entry with the lowest key, or the marker itself.
Of a target in any other state, and for a stale scrub read, the result is discarded: the Scrub Engine
paces on, and the VERIFY ends with QUARANTINED or BUSY_TARGET, the read counted and no mismatch (R40,
R42, R56, R57, R59, R60, R64, R66, R76, R135). The outcome is counted as a success in every case. No
other request waits at the port. -/
def Obligations.MarkerAtResetValueIsClaimed : Prop :=
  ∀ (p : PortId) (s : State) (f : Flight) (e : Entry) (x : Target) (r v : Byte),
    s.resetnLow = false → s.atRest = true → KeysRise s.image.entries →
    s.port p = { s.port p with state := .busy, flight := some f, waiting := [] } →
    f.form = .read e.key.addr x.width → f.discarded = false → f.aliasNo = e.key.aliasNo →
    s.entry e.key = some e → e.cls = .marker → e.resetValue = some r →
    v &&& e.mask = r &&& e.mask → s.target e.key.aliasNo = some x → x.port = p →
    x.busAddr = f.busAddr → x.marker = some e.key.addr →
    let counted : State :=
      { s with targets := s.targets.set e.key.aliasNo (some { x with failures := 0 }) }
    let claimed (eng : Engine) : State := State.logDrift
      { s with
        targets := s.targets.set e.key.aliasNo
          (some { x with failures := 0, state := .restoring, restorer := some eng })
        image := { s.image with entries := s.image.entries.map fun y =>
          if y.key = e.key then { e with lastObserved := some (v &&& e.mask) } else y } }
      .targetReset (some (aliasByte e.key.aliasNo)) (some e.key.addr) (some e.expected)
      (some (v &&& e.mask))
    let first : Entry × RestorePhase :=
      match s.nextEntry none fun y =>
        y.key.aliasNo == e.key.aliasNo && (y.cls == .hold || y.cls == .restoreOnly) with
      | some y => (y, .general)
      | none => (e, .marker)
    let progress := restoreStep (RestoreProgress.start e.key.aliasNo) first.2 first.1
    let flight (eng : Engine) := formedFlight eng e.key.aliasNo x.busAddr (s.busTiming p)
      (restoreForm first.1 x.width)
    (f.requester = .scrub → s.scrub.state = .readWait → s.scrub.current = some e.key →
      (s.scrub.stale = false → x.state = .online →
        exec (.transactionEnd p none v) s = .next (State.inFlight
          (State.portIdle { claimed .scrub with
            scrub := { s.scrub with state := .restore, current := none, restore := some progress } } p)
          p (flight .scrub))) ∧
      (s.scrub.stale = true ∨ x.state ≠ .online →
        exec (.transactionEnd p none v) s = .next (counted.paced.portIdle p))) ∧
    ∀ (b : CmdBytes) (w : VerifyProgress), f.requester = .executor → slotOf b = e.key.aliasNo →
      s.command = some { staged := stagedOf .verify b, progress := .verify w } →
      w.reading = some e.key →
      let ended (st : Status) := State.portIdle (State.answered { counted with command := none }
        { completionOf (stagedOf .verify b) st with
          aliasNo := b.aliasNo, value := BitVec.ofNat 8 (min w.mismatches 255)
          count := BitVec.ofNat 16 (w.read + 1) }) p
      (x.state = .online →
        exec (.transactionEnd p none v) s = .next (State.inFlight
          (((claimed .executor).working (stagedOf .verify b) (.restore progress true)).portIdle p)
          p (flight .executor))) ∧
      (x.state = .restoring → exec (.transactionEnd p none v) s = .next (ended .busyTarget)) ∧
      (x.state = .quarantined → exec (.transactionEnd p none v) s = .next (ended .quarantined))

/-- A step of a restore, by either engine. After its base read ended DONE, the merged write goes onto
the free port. A step that ends, at its write's outcome or at a base read not acknowledged, makes its
entry UNSEEN unless PENDING, is counted, and sets the stale mark for the executor's write of the Scrub
Engine's current entry. The next step takes the HOLD or RESTORE_ONLY entry with the next key, then the
marker. After the marker step, or with none to write, the restore ends complete: the target ONLINE, a
RESTORE_DONE record, and the engine's own end, a completion record or the cursor at the highest key of
the alias and pacing. A failure that reaches FAIL_THRESHOLD quarantines the target and abandons the
restore with its record (R17, R43, R59 to R66, R78, R80, R102, R121, R133). No other request waits at
the port. -/
def Obligations.RestoreStepsOn : Prop :=
  ∀ (p : PortId) (s : State) (f : Flight) (eng : Engine) (c : Staged) (turned : Bool)
      (g : RestoreProgress) (e : Entry) (x : Target) (refused : Option SentByte) (o : BusOutcome)
      (v : Byte),
    s.resetnLow = false → s.atRest = true → KeysRise s.image.entries →
    s.port p = { s.port p with state := .busy, flight := some f, waiting := [] } →
    f.requester = eng → f.discarded = false → f.aliasNo = g.aliasNo →
    f.form = writeStepForm (stageStep g.stage) e g.base x.width →
    (eng = .scrub → s.scrub.state = .restore ∧ s.scrub.restore = some g) →
    (eng = .executor → s.command = some { staged := c, progress := .restore g turned }) →
    g.step = some e.key → e.key.aliasNo = g.aliasNo → s.entry e.key = some e →
    s.target g.aliasNo = some x → x.state = .restoring → x.port = p → x.busAddr = f.busAddr →
    endOutcome f.form refused v = some o →
    let n := if o.isDone then 0 else min (x.failures + 1) 15
    let holding (t : State) (g' : RestoreProgress) : State := match eng with
      | .scrub => { t with scrub := { t.scrub with restore := some g' } }
      | .executor => t.working c (.restore g' turned)
    let goesOn (t : State) (g' : RestoreProgress) (form : Form) := State.inFlight
      ((holding t g').portIdle p) p
      (formedFlight eng g.aliasNo x.busAddr (s.busTiming p) form)
    let failed := eng = .executor ∧ o.isDone = false
    let g1 : RestoreProgress :=
      { g with
        written := g.written + 1
        failedWrites := if failed then g.failedWrites + 1 else g.failedWrites
        firstFailure := if failed then some (g.firstFailure.getD o) else g.firstFailure
        lastWritten := if g.phase = .general then some e.key else g.lastWritten
        base := none, step := none }
    let put (x' : Target) : State := { s with
      targets := s.targets.set g.aliasNo (some x')
      image := { s.image with entries := s.image.entries.map fun y =>
        if y.key = e.key then { e with state := if e.state = .pending then .pending else .unseen }
        else y }
      scrub := if eng = .executor ∧ s.scrub.current = some e.key then { s.scrub with stale := true }
        else s.scrub }
    let stepped := put { x with failures := n }
    let ended (t : State) (abandoned : Bool) : State := match eng with
      | .scrub => State.paced { t with scrub := { t.scrub with
          cursor := (((s.entriesOf g.aliasNo).getLast?).map (·.key)).or s.scrub.cursor } }
      | .executor => State.answered { t with command := none }
          { completionOf c (if abandoned then .quarantined else if turned then .restored
              else match g1.firstFailure with
                | some first => statusOf first
                | none => .ok) with
            aliasNo := c.body.aliasNo, value := BitVec.ofNat 8 (min g1.failedWrites 255)
            count := BitVec.ofNat 16 g1.written }
    let complete : State := State.portIdle (ended
      ((put { x with failures := n, state := .online, restorer := none }).logDrift .restoreDone
        (some (aliasByte g.aliasNo)) none none (some (BitVec.ofNat 8 (min g1.written 255)))) false) p
    let next := s.nextEntry (some e.key) fun y =>
      y.key.aliasNo == g.aliasNo && (y.cls == .hold || y.cls == .restoreOnly)
    let marker := x.marker.bind fun addr => s.entry { aliasNo := g.aliasNo, addr := addr }
    (g.stage = .baseRead → refused = none →
      exec (.transactionEnd p none v) s = .next (goesOn
        { s with targets := s.targets.set g.aliasNo (some { x with failures := 0 }) }
        { g with base := some v, stage := .write }
        (.write e.key.addr x.width ((e.expected &&& e.mask) ||| (v &&& ~~~e.mask))))) ∧
    (g.stage = .write ∨ o.isDone = false →
      (o.isDone = true ∨ n < s.settings.failThreshold.toNat →
        (g.phase = .general →
          (∀ y, next = some y → exec (.transactionEnd p refused v) s =
            .next (goesOn stepped (restoreStep g1 .general y) (restoreForm y x.width))) ∧
          (next = none →
            (∀ y, marker = some y → exec (.transactionEnd p refused v) s =
              .next (goesOn stepped (restoreStep g1 .marker y) (restoreForm y x.width))) ∧
            (marker = none → exec (.transactionEnd p refused v) s = .next complete))) ∧
        (g.phase = .marker → exec (.transactionEnd p refused v) s = .next complete)) ∧
      (o.isDone = false → s.settings.failThreshold.toNat ≤ n →
        exec (.transactionEnd p refused v) s = .next (State.portIdle (ended
          (((put { x with failures := n, state := .quarantined, restorer := none }).logDrift
            .quarantined (some (aliasByte g.aliasNo)) none none none).logDrift .restoreAbandoned
              (some (aliasByte g.aliasNo)) none none none) true) p)))

/-! ### SET, COMMIT, PORT_RESET -/

/-- SET stores the value in the setting its code names and in no other, and reports the previous value;
nothing else changes (R136, R146). -/
def Obligations.SetStoresTheSetting : Prop :=
  ∀ (b : CmdBytes) (s : State) (c : SettingCode), s.readyFor (stagedOf .set b) = true →
    settingOf b.aliasNo = some c → settingInRange c b.value = true →
    ∃ new : Settings, new.get c = b.value ∧ (∀ d, d ≠ c → new.get d = s.settings.get d) ∧
      exec (.set b) s = .next (State.answered { s.afterTake with settings := new }
        { completionOf (stagedOf .set b) .ok with
          aliasNo := b.aliasNo, value := s.settings.get c, expected := b.value })

/-- COMMIT SET makes the reference present and equal to the current signature, COMMIT CLEAR makes it
absent; either clears TABLE_FAULT and leaves the check count and all else (R110, R137, R146). -/
def Obligations.CommitSanctions : Prop :=
  ∀ (b : CmdBytes) (s : State), s.readyFor (stagedOf .commit b) = true →
    (b.option.extractLsb' 0 2 = 1 →
      exec (.commit b) s = .next (State.answered
        { s.afterTake with
          image := { s.image with reference := some s.image.signature, tableFault := false } }
        { completionOf (stagedOf .commit b) .ok with count := s.image.signature })) ∧
    (b.option.extractLsb' 0 2 = 2 →
      exec (.commit b) s = .next (State.answered
        { s.afterTake with image := { s.image with reference := none, tableFault := false } }
        (completionOf (stagedOf .commit b) .ok)))

/-- PORT_RESET asks the named port for recovery rounds with origin COMMAND: a free port enters
RECOVERING, a DOWN one stays DOWN while they run, and at a BUSY or RECOVERING one the request waits
(R98, R138). -/
def Obligations.PortResetStartsRounds : Prop :=
  ∀ (b : CmdBytes) (s : State) (p : PortId), s.readyFor (stagedOf .portReset b) = true →
    portNumber b.value = some p →
    let t := s.afterTake.working (stagedOf .portReset b) .portReset
    let rounds : Recovery :=
      { round := .first, origin := .command, timing := s.busTiming p, discarded := false }
    (s.portFree p = true →
      exec (.portReset b) s = .next (t.setPort p
        { s.port p with state := .recovering, flight := none, recovery := some rounds })) ∧
    ((s.port p).state = .down → (s.port p).recovery = none →
      exec (.portReset b) s = .next (t.setPort p
        { s.port p with state := .down, flight := none, recovery := some rounds })) ∧
    ((s.port p).state = .busy ∨ (s.port p).state = .recovering →
      exec (.portReset b) s = .next (t.setPort p
        { s.port p with waiting := (s.port p).waiting ++ [.portReset] }))

/-! ### Events on the buses -/

/-- The start check and its timeouts. Lines that read high together make the start condition and
nothing else happens. A line held low for STRETCH_LIMIT in the start check, or SCL held low for it in
the transaction: whatever the requester makes of the BUS_TIMEOUT, the port ends RECOVERING at round 1,
origin TIMEOUT, with the timing read now, nothing in flight, and none of its waiting requests lost
(R90, R91, R93, R94, R96). With no transaction in flight these events leave the state as it is, which
is the model's choice (log 11). -/
def Obligations.StartCheckAndTimeouts : Prop :=
  ∀ (p : PortId) (s : State), s.resetnLow = false →
    (∀ f, (s.port p).state = .busy → (s.port p).flight = some f →
      exec (.startCheckLinesHigh p) s = .next (s.setPort p
        { s.port p with flight := some { f with phase := .started } }) ∧
      ∀ i, (i = .stretchTimeout p ∨ i = .startCheckTimeout p ∧ f.phase = .startCheck) →
        ∃ t, exec i s = .next t ∧ (t.port p).state = .recovering ∧ (t.port p).flight = none ∧
          (t.port p).recovery = some
            { round := .first, origin := .timeout, timing := s.busTiming p, discarded := false } ∧
          (t.port p).passedOver = (s.port p).passedOver ∧
          (s.port p).waiting <+: (t.port p).waiting) ∧
    ((s.port p).flight = none →
      exec (.startCheckLinesHigh p) s = .next s ∧ exec (.startCheckTimeout p) s = .next s ∧
      exec (.stretchTimeout p) s = .next s ∧ ∀ r v, exec (.transactionEnd p r v) s = .next s)

/-- The one transaction of a READ or WRITE command ends. DONE sets the target's failures to 0 and
completes it OK, with the full value for a READ; a byte not acknowledged ends it by the table of R92,
the failure counted; the port becomes IDLE. SCL held low for STRETCH_LIMIT, or a line held low for it
in the start check, ends it BUS_TIMEOUT, the failure counted, and the port enters RECOVERING at round 1
(R79, R80, R91 to R94, R96, R121, R131, R132). A failure stays below FAIL_THRESHOLD, and no other
request waits at the port. -/
def Obligations.TransactionEndCompletesTheCommand : Prop :=
  ∀ (p : PortId) (s : State) (f : Flight) (k : CommandKind) (b : CmdBytes) (x : Target) (v : Byte),
    s.resetnLow = false → s.atRest = true →
    s.port p = { s.port p with state := .busy, flight := some f, waiting := [] } →
    k = .read ∨ k = .write → f.form = directForm (stagedOf k b) x.width →
    f.discarded = false → f.requester = .executor →
    s.command = some { staged := stagedOf k b, progress := .direct } →
    s.target f.aliasNo = some x → x.port = p → x.busAddr = f.busAddr →
    let n := min (x.failures + 1) 15
    let ended (failures : Nat) (st : Status) (value : Byte) :=
      State.answered
        { s with
          command := none
          targets := s.targets.set f.aliasNo (some { x with failures := failures }) }
        { completionOf (stagedOf k b) st with
          aliasNo := b.aliasNo, addr := addrOf b
          value := if k = .write then b.value else value }
    exec (.transactionEnd p none v) s = .next ((ended 0 .ok v).portIdle p) ∧
    (n < s.settings.failThreshold.toNat →
      exec (.transactionEnd p (some .address) v) s = .next ((ended n .noResponse 0).portIdle p) ∧
      exec (.transactionEnd p (some .regLow) v) s = .next ((ended n .dataRefused 0).portIdle p) ∧
      (x.width = .bits16 → exec (.transactionEnd p (some .regHigh) v) s =
        .next ((ended n .dataRefused 0).portIdle p)) ∧
      (k = .read → exec (.transactionEnd p (some .readAddress) v) s =
        .next ((ended n .noResponse 0).portIdle p)) ∧
      (k = .write → exec (.transactionEnd p (some .data) v) s =
        .next ((ended n .dataRefused 0).portIdle p)) ∧
      ∀ i, (i = .stretchTimeout p ∨ i = .startCheckTimeout p ∧ f.phase = .startCheck) →
        exec i s = .next ((ended n .busTimeout 0).setPort p
          { s.port p with
            state := .recovering, flight := none
            recovery := some
              { round := .first, origin := .timeout, timing := s.busTiming p
                discarded := false } }))

/-- A discarded transaction runs to its end, and its outcome reaches no engine and no target: the port
becomes IDLE and nothing else changes (R104). No request waits at the port. -/
def Obligations.DiscardedOutcomeReachesNoOne : Prop :=
  ∀ (p : PortId) (s : State) (f : Flight) (refused : Option SentByte) (v : Byte),
    s.resetnLow = false → s.atRest = true →
    s.port p = { s.port p with state := .busy, flight := some f, waiting := [] } →
    f.discarded = true → (∀ b, refused = some b → b ∈ sentBytes f.form) →
    exec (.transactionEnd p refused v) s = .next (s.portIdle p)

/-- A scrub read that ends DONE is applied: failures 0, and the Image Table takes the value as a
compare read (`ReadResultsMoveTheEntry` says how). An entry then DRIFTED with halt yes is held, with
SCRUB.Done 1 and the entry still current, unless a stop is requested; in every other case in which no
repair begins the engine starts the Pacing Timer; the port becomes IDLE. With the stale mark set the
value is discarded (R12, R31, R37, R40, R41, R43, R45, R94). The entry is no marker at its reset value,
and no other request waits at the port. -/
def Obligations.ScrubReadIsApplied : Prop :=
  ∀ (p : PortId) (s : State) (f : Flight) (e : Entry) (x : Target) (v : Byte),
    s.resetnLow = false → s.atRest = true → KeysRise s.image.entries →
    s.port p = { s.port p with state := .busy, flight := some f, waiting := [] } →
    f.requester = .scrub → f.form = .read e.key.addr x.width → f.discarded = false →
    f.aliasNo = e.key.aliasNo → s.scrub.state = .readWait → s.scrub.current = some e.key →
    s.entry e.key = some e → e.atResetValue v = false →
    s.target e.key.aliasNo = some x → x.state = .online → x.port = p → x.busAddr = f.busAddr →
    let t : State :=
      { s with targets := s.targets.set e.key.aliasNo (some { x with failures := 0 }) }
    let drifted := v &&& e.mask ≠ e.expected &&& e.mask ∧
      (e.state = .unseen ∨ e.state = .clean ∨ e.state = .drifted)
    (s.scrub.stale = true → exec (.transactionEnd p none v) s = .next (t.paced.portIdle p)) ∧
    (s.scrub.stale = false → s.scrub.stopRequested = false → drifted → e.halt = true →
      exec (.transactionEnd p none v) s = .next (State.portIdle
        { t.takeCompare e v with
          scrub := { s.scrub with state := .held }
          sections := { s.sections with scrubDone := true } } p)) ∧
    (s.scrub.stale = false →
      s.scrub.stopRequested = true ∨ ¬drifted ∨ (e.halt = false ∧ e.cls ≠ .hold) →
      exec (.transactionEnd p none v) s = .next ((t.takeCompare e v).paced.portIdle p))

/-- A scrub read that finds a CLEAN HOLD entry with halt no, of an ONLINE target, not matching: the
entry drifts, a MISMATCH record is made, a repair begins on the same result, and the repair write goes
onto the same port with the merged value: expected under the mask, the value read outside it (R8, R12,
R14, R41, R48, R51, R52, R102). No stop is requested and no other request waits at the port. -/
def Obligations.ScrubReadBeginsTheRepair : Prop :=
  ∀ (p : PortId) (s : State) (f : Flight) (e : Entry) (x : Target) (v : Byte),
    s.resetnLow = false → s.atRest = true → KeysRise s.image.entries →
    s.port p = { s.port p with state := .busy, flight := some f, waiting := [] } →
    f.requester = .scrub → f.form = .read e.key.addr x.width → f.discarded = false →
    f.aliasNo = e.key.aliasNo → s.scrub.state = .readWait → s.scrub.current = some e.key →
    s.scrub.stale = false → s.scrub.stopRequested = false → s.entry e.key = some e →
    e.cls = .hold → e.halt = false → e.state = .clean → s.target e.key.aliasNo = some x →
    x.state = .online → x.port = p → x.busAddr = f.busAddr →
    v &&& e.mask ≠ e.expected &&& e.mask →
    let e' : Entry := { e with
      state := .repairing, attempts := 0, lastObserved := some (v &&& e.mask)
      drifts := min (e.drifts + 1) 255 }
    let t : State := { s with
      image := { s.image with entries := s.image.entries.map fun y => if y.key = e.key then e' else y }
      targets := s.targets.set e.key.aliasNo (some { x with failures := 0 })
      scrub := { s.scrub with
        state := .repairWait
        repair := some { base := if e.mask = 0xFF then none else some v, step := .write } } }
    exec (.transactionEnd p none v) s = .next (State.inFlight
      ((t.logDrift .mismatch (some (aliasByte e.key.aliasNo)) (some e.key.addr) (some e.expected)
        (some (v &&& e.mask))).portIdle p)
      p (formedFlight .scrub e.key.aliasNo x.busAddr (s.busTiming p)
        (.write e.key.addr x.width ((e.expected &&& e.mask) ||| (v &&& ~~~e.mask)))))

/-- The transactions of a repair, each on the bus of the free port as the one before it ends: after the
base read the merged write, after the write the verify read. A verify read that matches makes the entry
CLEAN with a REPAIRED record; a mismatch counts an attempt, and at REPAIR_LIMIT makes it FAILED with a
REPAIR_FAILED record, below the limit begins the next attempt on the value read, or, with a stop
requested, leaves it DRIFTED. A stale mark at the end of any of them, after a base read found as the
write is granted, and a byte not acknowledged at any step, abandon the repair: DRIFTED again, with
nothing taken (R8, R15, R16, R37, R48, R52 to R55, R80, R102). Where a repair ends the engine starts
the Pacing Timer. The target is ONLINE, a failure stays below FAIL_THRESHOLD, and no other request
waits at the port. -/
def Obligations.RepairRunsItsTransactions : Prop :=
  ∀ (p : PortId) (s : State) (f : Flight) (e : Entry) (x : Target) (rep : Repair)
      (refused : Option SentByte) (o : BusOutcome) (v : Byte),
    s.resetnLow = false → s.atRest = true → KeysRise s.image.entries →
    s.port p = { s.port p with state := .busy, flight := some f, waiting := [] } →
    f.requester = .scrub → f.discarded = false → f.aliasNo = e.key.aliasNo →
    f.form = writeStepForm rep.step e rep.base x.width → s.scrub.current = some e.key →
    s.scrub.state = (if rep.step = .verifyRead then .verifyWait else .repairWait) →
    s.scrub.repair = some rep → s.entry e.key = some e → e.state = .repairing →
    s.target e.key.aliasNo = some x → x.state = .online → x.port = p → x.busAddr = f.busAddr →
    let m := v &&& e.mask
    let n := min (x.failures + 1) 15
    let tries := min (e.attempts + 1) 7
    let into (n : Nat) (e' : Entry) : State := { s with
      targets := s.targets.set e.key.aliasNo (some { x with failures := n })
      image := { s.image with
        entries := s.image.entries.map fun y => if y.key = e.key then e' else y } }
    let goesOn (t : State) (st : ScrubState) (rep' : Repair) (form : Form) := State.inFlight
      (State.portIdle { t with scrub := { s.scrub with state := st, repair := some rep' } } p) p
      (formedFlight .scrub e.key.aliasNo x.busAddr (s.busTiming p) form)
    let merged := Form.write e.key.addr x.width ((e.expected &&& e.mask) ||| (v &&& ~~~e.mask))
    let record (t : State) (kind : DriftKind) := t.logDrift kind (some (aliasByte e.key.aliasNo))
      (some e.key.addr) (some e.expected) (some m)
    let back : Entry := { e with state := .drifted }
    let tried : Entry := { e with attempts := tries, lastObserved := some m }
    (rep.step = .baseRead → s.scrub.stale = false → exec (.transactionEnd p none v) s = .next (goesOn
      (into 0 e) .repairWait { base := some v, step := .write } merged)) ∧
    (rep.step = .write → s.scrub.stale = false → exec (.transactionEnd p none v) s = .next (goesOn
      (into 0 e) .verifyWait { rep with step := .verifyRead } (.read e.key.addr x.width))) ∧
    (s.scrub.stale = true →
      exec (.transactionEnd p none v) s = .next ((into 0 back).paced.portIdle p)) ∧
    (rep.step = .verifyRead → s.scrub.stale = false →
      (m = e.expected &&& e.mask → exec (.transactionEnd p none v) s = .next (State.portIdle
        (record (into 0 { e with state := .clean, attempts := 0, lastObserved := some m })
          .repaired).paced p)) ∧
      (m ≠ e.expected &&& e.mask →
        (s.settings.repairLimit.toNat ≤ tries → exec (.transactionEnd p none v) s = .next
          (State.portIdle (record (into 0 { tried with state := .failed }) .repairFailed).paced p)) ∧
        (tries < s.settings.repairLimit.toNat →
          (s.scrub.stopRequested = true → exec (.transactionEnd p none v) s = .next
            ((into 0 { tried with state := .drifted }).paced.portIdle p)) ∧
          (s.scrub.stopRequested = false → exec (.transactionEnd p none v) s = .next (goesOn
            (into 0 tried) .repairWait
            { base := if e.mask = 0xFF then none else some v, step := .write } merged))))) ∧
    (endOutcome f.form refused v = some o → o.isDone = false →
      n < s.settings.failThreshold.toNat →
      exec (.transactionEnd p refused v) s = .next ((into n back).paced.portIdle p))

/-- A recovery round ends, after a timeout or for a PORT_RESET, at a RECOVERING port or at a DOWN one.
A round that finds both lines high makes the port IDLE, with a PORT_UP record if it was DOWN, and
completes the PORT_RESET OK. A round that finds a line low, or that SCL ends, fails: round 2 follows
round 1, reading the timing again, and after round 2 a RECOVERING port is DOWN with a PORT_DOWN record,
a DOWN one stays so with none, and the PORT_RESET completes PORT_DOWN. Rounds of a PORT_RESET that an
Interface Reset abandoned complete no command (R90, R95, R96, R98, R104, R138, R146). No request waits
at the port. -/
def Obligations.RecoveryRoundsEnd : Prop :=
  ∀ (p : PortId) (s : State) (r : Recovery) (b : CmdBytes), s.resetnLow = false →
    s.atRest = true → s.port p = { s.port p with recovery := some r, waiting := [] } →
    (s.port p).state = .recovering ∨ (s.port p).state = .down →
    (r.origin = .command → r.discarded = false →
      s.command = some { staged := stagedOf .portReset b, progress := .portReset }) →
    let ended (t : State) (st : Status) : State :=
      if r.origin = .command ∧ r.discarded = false then State.answered { t with command := none }
        { completionOf (stagedOf .portReset b) st with value := b.value }
      else t
    let logged (t : State) (kind : DriftKind) :=
      t.logDrift kind (some (portByte p)) none none none
    let down := s.setPort p { s.port p with state := .down, recovery := none }
    exec (.recoveryRoundEnd p true true) s = .next (ended
      (if (s.port p).state = .down then logged (s.portIdle p) .portUp else s.portIdle p) .ok) ∧
    ∀ i, (i = .recoveryRoundEnd p true false ∨ i = .recoveryRoundEnd p false true ∨
        i = .recoveryRoundEnd p false false ∨ i = .recoveryStretchTimeout p) →
      exec i s = .next (
        if r.round = .first then s.setPort p { s.port p with
          recovery := some { r with round := .second, timing := s.busTiming p } }
        else ended (if (s.port p).state = .down then down else logged down .portDown) .portDown)

/-- A port enters DOWN as its round 2 fails, and handles the requests that waited: its PORT_DOWN record
comes first; a PORT_RESET starts its rounds at once, and every other request is answered PORT_DOWN at
once, also one that waited behind the PORT_RESET. So a scrub read ends with the failure counted and the
engine pacing on, a READ or WRITE command completes PORT_DOWN with the failure counted, and an ATTACH
completes PORT_DOWN with the slot FREE; where the rounds were a PORT_RESET's own, that command then
completes PORT_DOWN (R39, R69, R72, R80, R96, R97, R98, R123); that the report meets the slot's own
place is the model's inference (log 7). A failure stays below FAIL_THRESHOLD. -/
def Obligations.DownPortAnswersTheWaiting : Prop :=
  ∀ (p : PortId) (s : State) (r : Recovery) (ws : List Request) (i : Instr), s.resetnLow = false →
    s.atRest = true → r.round = .second →
    s.port p = { s.port p with
      state := .recovering, flight := none, recovery := some r, waiting := ws } →
    (i = .recoveryRoundEnd p true false ∨ i = .recoveryRoundEnd p false true ∨
      i = .recoveryRoundEnd p false false ∨ i = .recoveryStretchTimeout p) →
    let down := (s.setPort p
      { s.port p with state := .down, recovery := none, waiting := [] }).logDrift .portDown
        (some (portByte p)) none none none
    let failed (t : State) (a : Fin 16) (x : Target) : State :=
      { t with targets := s.targets.set a (some { x with failures := min (x.failures + 1) 15 }) }
    (∀ (k : Key) (x : Target), s.scrub.state = .readWait → s.scrub.current = some k →
      s.scrub.restore = none → s.target k.aliasNo = some x → x.port = p →
      min (x.failures + 1) 15 < s.settings.failThreshold.toNat →
      (r.origin = .timeout → ws = [.scrub] →
        exec i s = .next (failed down k.aliasNo x).paced) ∧
      ∀ b, s.command = some { staged := stagedOf .portReset b, progress := .portReset } →
        (r.origin = .timeout → ws = [.portReset, .scrub] ∨ ws = [.scrub, .portReset] →
          exec i s = .next (State.paced ((failed down k.aliasNo x).setPort p { s.port p with
            state := .down, waiting := []
            recovery := some
              { round := .first, origin := .command, timing := s.busTiming p
                discarded := false } }))) ∧
        (r.origin = .command → r.discarded = false → ws = [.scrub] →
          exec i s = .next (State.answered
            { (failed down k.aliasNo x).paced with command := none }
            { completionOf (stagedOf .portReset b) .portDown with value := b.value }))) ∧
    (∀ (k : CommandKind) (b : CmdBytes) (x : Target), k = .read ∨ k = .write → r.origin = .timeout →
      ws = [.executor] → s.command = some { staged := stagedOf k b, progress := .direct } →
      s.target (slotOf b) = some x → x.port = p →
      min (x.failures + 1) 15 < s.settings.failThreshold.toNat →
      exec i s = .next (State.answered { failed down (slotOf b) x with command := none }
        { completionOf (stagedOf k b) .portDown with
          aliasNo := b.aliasNo, addr := addrOf b, value := if k = .write then b.value else 0 })) ∧
    ∀ (b : CmdBytes) (w : Width), r.origin = .timeout → ws = [.executor] →
      s.command = some { staged := stagedOf .attach b, progress := .probe } →
      optionPort b.option = some p → optionWidth b.option = some w →
      exec i s = .next (State.answered { down with command := none }
        { tag := b.tag, kind := 0x11, status := .portDown, aliasNo := b.aliasNo, addr := 0
          value := b.value, expected := 0, mask := 0, detail := placeDetail p w, count := 0 })

/-! ### What the parts of the block compute -/

/-- The bytes and clock pulses of a transaction, what the port does with its two lines, and how the
byte not acknowledged gives the outcome: the pulse table of R88; the bus activity of a READ of a 16-bit
target that runs to its end and of a WRITE refused at its register address; a sent byte most
significant bit first, with the ninth pulse that reads its acknowledge, and a received byte with the
port's not-acknowledge; as many releases of SCL awaited as there are pulses, and one more for each
repeated start and stop condition (R88, R93); the table of R92. A recovery round: no pulse while SDA
reads high, as many pulses as leave it low, up to nine, then the stop condition and the reading of both
lines (R95); that SCL is pulled low before the stop condition is the model's inference (log 16). Either
activity is cut short where SCL, once released, stays low for STRETCH_LIMIT: the port then releases SDA
too and does nothing further (R93, R95). -/
def Obligations.BusBytesAndOutcomes : Prop :=
  (∀ (addr : Half) (d : Byte),
    [Form.probe, .read addr .bits8, .read addr .bits16, .write addr .bits8 d,
     .write addr .bits16 d].map pulseCount = [9, 36, 45, 27, 36]) ∧
  (∀ (busAddr : BitVec 7) (addr : Half), transactionActions busAddr (.read addr .bits16) none =
    [.lines [.pullSda, .pullScl], .sent .address (busAddr ++ (0 : BitVec 1)),
     .sent .regHigh (highByte addr), .sent .regLow (lowByte addr),
     .lines [.releaseSda, .releaseScl, .awaitScl, .pullSda, .pullScl],
     .sent .readAddress (busAddr ++ (1 : BitVec 1)), .received,
     .lines [.pullSda, .releaseScl, .awaitScl, .releaseSda]]) ∧
  (∀ (busAddr : BitVec 7) (addr : Half) (d : Byte),
    transactionActions busAddr (.write addr .bits8 d) (some .regLow) =
      [.lines [.pullSda, .pullScl], .sent .address (busAddr ++ (0 : BitVec 1)),
       .sent .regLow (lowByte addr), .lines [.pullSda, .releaseScl, .awaitScl, .releaseSda]]) ∧
  (∀ (b : SentByte) (v : Byte), (BusAction.sent b v).activity =
    ([7, 6, 5, 4, 3, 2, 1, 0].flatMap fun i =>
      [if v.getLsbD i then .releaseSda else .pullSda, .releaseScl, .awaitScl, .pullScl]) ++
    [.releaseSda, .releaseScl, .awaitScl, .readSda, .pullScl]) ∧
  BusAction.received.activity =
    (List.range 8).flatMap (fun _ => [.releaseSda, .releaseScl, .awaitScl, .readSda, .pullScl]) ++
    [.releaseSda, .releaseScl, .awaitScl, .pullScl] ∧
  (∀ f : Flight, (f.activity none).count .awaitScl =
    pulseCount f.form + match f.form with
      | .read _ _ => 2
      | .probe | .write _ _ _ => 1) ∧
  (∀ (f : Form) (v : Byte), endOutcome f none v = some (.done v) ∧
    ∀ b, endOutcome f (some b) v =
      if b ∈ sentBytes f then
        some (if b = .address ∨ b = .readAddress then .noResponse else .dataRefused)
      else none) ∧
  (∀ later, recoveryActivity (true :: later) =
    [.releaseSda, .readSda, .pullScl, .pullSda, .releaseScl, .awaitScl, .releaseSda, .readScl,
     .readSda]) ∧
  (∀ n later, n ≤ 9 → recoveryPulses (List.replicate n false ++ true :: later) = n) ∧
  (∀ n later, 10 ≤ n → recoveryPulses (List.replicate n false ++ later) = 9) ∧
  (∀ sda, (recoveryActivity sda).count .awaitScl = recoveryPulses sda + 1) ∧
  ∀ (n : Nat) (l : List LineAction), n < l.count .awaitScl →
    ∃ before later, l = before ++ .awaitScl :: later ∧ before.count .awaitScl = n ∧
      heldAt n l = before ++ [.awaitScl, .releaseSda]

/-- The arbiter: the executor's request first, unless the Scrub Engine's waits too and has been passed
over four times; the passed-over count goes up at an executor's grant while a scrub request waits, to 0
at a scrub grant that forms a transaction, and stays at a withdrawal; and no grant puts a transaction
for a QUARANTINED target on the bus (R99, R100, R101). -/
def Obligations.ArbiterGrants : Prop :=
  (∀ (x : Port) (r : Request), r ≠ .scrub →
    (x.waiting = [r] → x.choose = some r) ∧ (x.waiting = [.scrub] → x.choose = some .scrub) ∧
    (x.waiting = [r, .scrub] ∨ x.waiting = [.scrub, r] →
      x.choose = some (if 4 ≤ x.passedOver then .scrub else r)) ∧
    (x.grantExecutor r).passedOver =
      if .scrub ∈ x.waiting then x.passedOver + 1 else x.passedOver) ∧
  ∀ (s : State) (p : PortId),
    (∀ f, (s.port p).flight = none → ((s.grant p).1.port p).flight = some f →
      s.isQuarantined f.aliasNo = false) ∧
    ((s.port p).choose = some .scrub →
      let s1 := s.setPort p { s.port p with waiting := (s.port p).waiting.erase .scrub }
      (∀ f, s1.formScrub p = .formed f → ((s.grant p).1.port p).passedOver = 0) ∧
      ∀ r, s1.formScrub p = .withdrawn r →
        ((s.grant p).1.port p).passedOver = (s.port p).passedOver)

/-- A value matches when every bit under the care mask is the expected one; a marker's value is judged
alike against its reset value; the merged write carries the expected bits under the mask and the base's
outside it, needs no base for mask 0xFF, and always matches when read back (R7, R8). -/
def Obligations.MatchAndMergedWrite : Prop :=
  ∀ (e : Entry) (v base : Byte),
    (e.matchesValue v = true ↔
      ∀ i, i < 8 → e.mask.getLsbD i = true → v.getLsbD i = e.expected.getLsbD i) ∧
    (e.atResetValue v = true ↔ e.cls = .marker ∧ ∃ r, e.resetValue = some r ∧
      ∀ i, i < 8 → e.mask.getLsbD i = true → v.getLsbD i = r.getLsbD i) ∧
    (∀ i, i < 8 → (e.writeValue (some base)).getLsbD i =
      if e.mask.getLsbD i then e.expected.getLsbD i else base.getLsbD i) ∧
    (e.mask = 0xFF → e.writeValue none = e.expected) ∧
    e.matchesValue (e.writeValue (some base)) = true

/-- What the Image Table makes of a read: the table of a compare read (R12, R13), the verify read of a
repair attempt (R15) and the verify read of an UPDATE or a DEFINE with APPLY (R11), each with its drift
record. -/
def Obligations.ReadResultsMoveTheEntry : Prop :=
  ∀ (s : State) (e : Entry) (v : Byte), KeysRise s.image.entries → e ∈ s.image.entries →
    let m := v &&& e.mask
    let seen : Entry := { e with lastObserved := some m }
    let into (e' : Entry) : State := { s with image := { s.image with
      entries := s.image.entries.map fun y => if y.key = e.key then e' else y } }
    let record (t : State) (kind : DriftKind) : State :=
      t.logDrift kind (some (aliasByte e.key.aliasNo)) (some e.key.addr) (some e.expected) (some m)
    let clean : Entry := { seen with state := .clean, attempts := 0 }
    let drifted : Entry := { seen with state := .drifted, drifts := min (e.drifts + 1) 255 }
    let tries := min (e.attempts + 1) 7
    (s.takeCompare e v =
      match e.state, e.matchesValue v with
      | .unseen, true | .clean, true => into clean
      | .unseen, false | .clean, false => record (into { drifted with attempts := 0 }) .mismatch
      | .drifted, true | .failed, true => record (into clean) .cleared
      | .drifted, false | .failed, false => into seen
      | .pending, _ | .repairing, _ => s) ∧
    (e.state = .repairing → s.takeRepairVerify e v =
      if e.matchesValue v then record (into clean) .repaired
      else if s.settings.repairLimit.toNat ≤ tries then
        record (into { seen with state := .failed, attempts := tries }) .repairFailed
      else into { seen with attempts := tries }) ∧
    s.takeApplyVerify e v =
      if e.cls = .restoreOnly then into seen
      else if e.matchesValue v then into clean
      else record (into drifted) .mismatch

/-- An outcome report: not counted for a FREE slot or another place; DONE sets the failures to 0 and
leaves the state; WITHHELD is not counted; any other outcome adds one, held at 15, and at
FAIL_THRESHOLD as it stands an ONLINE or RESTORING target becomes QUARANTINED, its restorer kept, with
a QUARANTINED record and QCOUNT one higher (R79, R80, R81). -/
def Obligations.ReportsAreCounted : Prop :=
  ∀ (s : State) (a : Fin 16) (p : PortId) (b : BitVec 7) (o : BusOutcome),
    ((∀ x, s.target a = some x → x.port ≠ p ∨ x.busAddr ≠ b) → s.report a p b o = s) ∧
    ∀ x, s.target a = some x → x.port = p → x.busAddr = b →
      let n := min (x.failures + 1) 15
      let put (y : Target) : State := { s with targets := s.targets.set a (some y) }
      (∀ v, o = .done v → s.report a p b o = put { x with failures := 0 }) ∧
      (o = .withheld → s.report a p b o = s) ∧
      (o.isDone = false → o ≠ .withheld →
        (x.state ≠ .quarantined → s.settings.failThreshold.toNat ≤ n →
          s.report a p b o = (put { x with failures := n, state := .quarantined }).logDrift
            .quarantined (some (aliasByte a)) none none none ∧
          (s.report a p b o).quarantineCount = s.quarantineCount + 1) ∧
        (x.state = .quarantined ∨ n < s.settings.failThreshold.toNat →
          s.report a p b o = put { x with failures := n }))

/-- R106: the signature is the cyclic redundancy check with generator x^16 + x^12 + x^5 + 1 over the
bytes of the image, most significant bit first, from a check register of 0xFFFF, neither inverted nor
reflected. Each bit is compared with the register's top bit, the register shifts up with a 0 entering,
and 0x1021 is combined in if the two differed. An empty table gives 0xFFFF. The bytes are six for each
entry, in the order of the table: alias, register address high and low, expected, mask, class code. -/
def Obligations.SignatureIsTheCrc : Prop :=
  let bit (b : Bool) : Polynomial (ZMod 2) := if b then 1 else 0
  let register (r : Half) : Polynomial (ZMod 2) :=
    ∑ i ∈ Finset.range 16, bit (r.getLsbD i) * Polynomial.X ^ i
  let byte (b : Byte) : Polynomial (ZMod 2) :=
    ∑ i ∈ Finset.range 8, bit (b.getLsbD i) * Polynomial.X ^ i
  let message (bs : List Byte) : Polynomial (ZMod 2) :=
    bs.foldl (fun m b => m * Polynomial.X ^ 8 + byte b) 0
  let generator : Polynomial (ZMod 2) :=
    Polynomial.X ^ 16 + Polynomial.X ^ 12 + Polynomial.X ^ 5 + 1
  (∀ es : List Entry, register (signatureOf es) =
    Polynomial.modByMonic
      (register 0xFFFF * Polynomial.X ^ (8 * (imageBytes es).length) +
        message (imageBytes es) * Polynomial.X ^ 16) generator) ∧
  (∀ (r : Half) (b : Bool),
    crcBit r b = (r <<< 1) ^^^ (if r.getLsbD 15 = b then 0 else 0x1021)) ∧
  (∀ (r : Half) (b : Byte), crcByte r b =
    (((((((crcBit r (b.getLsbD 7) |> (crcBit · (b.getLsbD 6))) |> (crcBit · (b.getLsbD 5))) |>
      (crcBit · (b.getLsbD 4))) |> (crcBit · (b.getLsbD 3))) |> (crcBit · (b.getLsbD 2))) |>
      (crcBit · (b.getLsbD 1))) |> (crcBit · (b.getLsbD 0)))) ∧
  signatureOf [] = 0xFFFF ∧
  ∀ es : List Entry, imageBytes es = es.flatMap fun e =>
    [BitVec.ofNat 8 e.key.aliasNo.val, e.key.addr.extractLsb' 8 8, e.key.addr.extractLsb' 0 8,
     e.expected, e.mask,
     match e.cls with
     | .watch => 0x01
     | .hold => 0x02
     | .restoreOnly => 0x03
     | .marker => 0x04]

/-- R175: IRQn is asserted exactly when some section has Done 1 and Disable 0, a level computed from
the flags as they stand; both resets release it. -/
def Obligations.IrqFollowsDoneAndDisable : Prop :=
  ∀ s : State,
    (s.irqAsserted = true ↔ ∃ x, s.doneFlag x = true ∧ s.disableFlag x = false) ∧
    (∀ cause t, exec (.hardwareReset cause) s = .next t →
      (∀ x, t.disableFlag x = true) ∧ t.irqAsserted = false) ∧
    (∀ code t, s.resetnLow = false → exec (.interfaceReset code) s = .next t →
      (∀ x, t.doneFlag x = false ∧ t.disableFlag x = false) ∧ t.irqAsserted = false)

/-- The Fault Summary shows TABLE_FAULT, each port DOWN and a QUARANTINED target in its four bits,
FAULTn is asserted exactly while it is not 0, and the section flags have no part in it (R176, R177,
R185). -/
def Obligations.FaultSummaryDrivesFaultn : Prop :=
  ∀ s : State,
    (s.faultAsserted = true ↔ s.image.tableFault = true ∨ (∃ p, (s.port p).state = .down) ∨
      ∃ a x, s.target a = some x ∧ x.state = .quarantined) ∧
    (s.faultAsserted = true ↔ s.faultSummary ≠ 0) ∧
    s.faultSummary.getLsbD 0 = s.image.tableFault ∧
    (s.faultSummary.getLsbD 1 = true ↔ s.port0.state = .down) ∧
    (s.faultSummary.getLsbD 2 = true ↔ s.port1.state = .down) ∧
    (s.faultSummary.getLsbD 3 = true ↔ ∃ a x, s.target a = some x ∧ x.state = .quarantined) ∧
    (∀ i, 4 ≤ i → s.faultSummary.getLsbD i = false) ∧
    ∀ flags : Sections, ({ s with sections := flags } : State).faultAsserted = s.faultAsserted

/-! ### What every step keeps -/

/-- The state after hardware reset meets every invariant below. -/
def Obligations.InvariantsHoldAtReset : Prop :=
  ImageOk State.reset ∧ QueuesOk State.reset ∧ FaultOk State.reset ∧ DoneOk State.reset ∧
    SettingsOk State.reset ∧ PortsOk State.reset ∧ RestorerOk State.reset ∧
    MarkersOk State.reset ∧ PlacesOk State.reset ∧ RepairingOk State.reset ∧
    EntryRangesOk State.reset ∧ ResetValuesOk State.reset

/-- Every step keeps the image in key order, with no key twice, at most 512 entries, no care mask 0,
and the current signature that of the entries (R1, R2, R3, R108). -/
def Obligations.StepKeepsTheImage : Prop :=
  ∀ s t : State, ImageOk s → step s = .next t → ImageOk t

/-- Every step keeps the queues and the log within their room (R114, R142, R154), SCRUB.Done to HELD
and IDLE (R172), the settings in their ranges (R136), and a reference present while TABLE_FAULT is
latched (R105). -/
def Obligations.StepKeepsTheHostSide : Prop :=
  ∀ s t : State, step s = .next t →
    (QueuesOk s → QueuesOk t) ∧ (DoneOk s → DoneOk t) ∧ (SettingsOk s → SettingsOk t) ∧
      (FaultOk s → FaultOk t)

/-- Every step keeps the ports: one transaction in flight exactly while BUSY, recovery progress only
while RECOVERING or DOWN, a passed-over count of at most 4 (R87, R100, R101). -/
def Obligations.StepKeepsThePorts : Prop :=
  ∀ s t : State, PortsOk s → step s = .next t → PortsOk t

/-- Every step keeps the claims: a target is RESTORING only while the engine its restorer field names
has a restore of it in progress (R76, R78). -/
def Obligations.StepKeepsTheClaims : Prop :=
  ∀ s t : State, RestorerOk s → step s = .next t → RestorerOk t

/-- Every step keeps the image and the Target Table in agreement: every entry's alias is attached, and
the marker field names the target's one MARKER entry (R2, R6, R75). -/
def Obligations.StepKeepsTheMarkers : Prop :=
  ∀ s t : State, ImageOk s → MarkersOk s → step s = .next t → MarkersOk t

/-- Every step keeps the attached targets at distinct places (R73). -/
def Obligations.StepKeepsThePlaces : Prop :=
  ∀ s t : State, PlacesOk s → step s = .next t → PlacesOk t

/-- Every step keeps REPAIRING to the Scrub Engine's current entry in REPAIR_WAIT or VERIFY_WAIT (R14),
the fields of each entry in their ranges with last observed under the mask (R3, R4, R15), and a
marker's reset value apart from its expected value (R4, R6). -/
def Obligations.StepKeepsTheEntries : Prop :=
  ∀ s t : State, ImageOk s → step s = .next t →
    (RepairingOk s → RepairingOk t) ∧ (EntryRangesOk s → EntryRangesOk t) ∧
      (ResetValuesOk s → ResetValuesOk t)

/-- A QUARANTINED target stays so until software releases it or detaches it, by the row of the command
or by the COMMAND_TAKE of such a command, or a hardware reset: no success, no restore, no other command
and no Interface Reset brings it back (R80, R81, R84, R86). That a restoring engine looks at the target
first, also after a marker step withdrawn because its entry was retired, is the model's inference (log
13), on which this rests. The premise, that the slot of a probe under way is FREE, is part of
`MarkersOk`. -/
def Obligations.OnlySoftwareEndsAQuarantine : Prop :=
  ∀ (i : Instr) (s t : State) (a : Fin 16) (x : Target),
    (∀ c, s.command = some c → c.progress = .probe → s.target (slotOf c.staged.body) = none) →
    s.target a = some x → x.state = .quarantined → exec i s = .next t →
    (∃ y, t.target a = some y ∧ y.state = .quarantined ∧ y.port = x.port ∧
      y.busAddr = x.busAddr) ∨
    (∃ cause, i = .hardwareReset cause) ∨ i = .commandTake ∨ (∃ b, i = .release b) ∨
      ∃ b, i = .detach b

/-- What only its own commands move: the Disable flags (R174), the staging bytes (R181), the settings
(R136), the reference and the latched TABLE_FAULT (R110, R112), and the signature with the bytes it
covers (R108). A COMMAND_TAKE is the take of such a command. -/
def Obligations.OnlyTheirCommandsMoveThem : Prop :=
  ∀ (i : Instr) (s t : State), exec i s = .next t → (∀ cause, i ≠ .hardwareReset cause) →
    (t.sections.disable ≠ s.sections.disable →
      (∃ code, i = .interfaceReset code) ∨ ∃ b, i = .idisWrite b) ∧
    (t.staging ≠ s.staging → ∃ w b, i = .stagingWrite w b) ∧
    (t.settings ≠ s.settings → i = .commandTake ∨ ∃ b, i = .set b) ∧
    (t.image.reference ≠ s.image.reference → i = .commandTake ∨ ∃ b, i = .commit b) ∧
    (s.image.tableFault = true → t.image.tableFault = false →
      i = .commandTake ∨ ∃ b, i = .commit b) ∧
    (t.image.signature ≠ s.image.signature ∨
        t.image.entries.map entryBytes ≠ s.image.entries.map entryBytes →
      i = .commandTake ∨ (∃ b, i = .define b) ∨ (∃ b, i = .update b) ∨ ∃ b, i = .retire b)

/-- One record for each command: whatever happens to a current command, but a reset or a release or
discard of records, either it is still the current command and no record has been made, or it has left
exactly one record at the tail, with its tag and kind (R120, R149). -/
def Obligations.OneRecordForEachCommand : Prop :=
  ∀ (i : Instr) (s t : State) (c : Command), s.command = some c → exec i s = .next t →
    (∀ cause, i ≠ .hardwareReset cause) → (∀ code, i ≠ .interfaceReset code) →
    i ≠ .resultStart → i ≠ .resultClear →
    (∃ g, t.command = some { staged := c.staged, progress := g } ∧
      t.completions = s.completions) ∨
    ∃ r, t.command = none ∧ t.completions = s.completions ++ [r] ∧ r.tag = c.staged.body.tag ∧
      r.kind = c.staged.kind
end

