-- ==== Sys2Proof/Laws/State.lean ====
section
/-! SUPPORT. One lemma for each field an update leaves alone, so that no later proof unfolds a record
update; and what each update makes of the field it changes. -/

namespace Sys2Proof
namespace Machine

variable (s : State)

/-! ### setPort -/

@[simp] theorem setPort_image (p : PortId) (x : Port) : (s.setPort p x).image = s.image := by
  cases p <;> rfl
@[simp] theorem setPort_targets (p : PortId) (x : Port) : (s.setPort p x).targets = s.targets := by
  cases p <;> rfl
@[simp] theorem setPort_scrub (p : PortId) (x : Port) : (s.setPort p x).scrub = s.scrub := by
  cases p <;> rfl
@[simp] theorem setPort_command (p : PortId) (x : Port) : (s.setPort p x).command = s.command := by
  cases p <;> rfl
@[simp] theorem setPort_queue (p : PortId) (x : Port) : (s.setPort p x).queue = s.queue := by
  cases p <;> rfl
@[simp] theorem setPort_completions (p : PortId) (x : Port) :
    (s.setPort p x).completions = s.completions := by
  cases p <;> rfl
@[simp] theorem setPort_log (p : PortId) (x : Port) : (s.setPort p x).log = s.log := by
  cases p <;> rfl
@[simp] theorem setPort_staging (p : PortId) (x : Port) : (s.setPort p x).staging = s.staging := by
  cases p <;> rfl
@[simp] theorem setPort_sections (p : PortId) (x : Port) :
    (s.setPort p x).sections = s.sections := by
  cases p <;> rfl
@[simp] theorem setPort_settings (p : PortId) (x : Port) :
    (s.setPort p x).settings = s.settings := by
  cases p <;> rfl
@[simp] theorem setPort_quiet (p : PortId) (x : Port) : (s.setPort p x).quiet = s.quiet := by
  cases p <;> rfl
@[simp] theorem setPort_resetnLow (p : PortId) (x : Port) :
    (s.setPort p x).resetnLow = s.resetnLow := by
  cases p <;> rfl
@[simp] theorem setPort_choices (p : PortId) (x : Port) : (s.setPort p x).choices = s.choices := by
  cases p <;> rfl
@[simp] theorem setPort_pending (p : PortId) (x : Port) : (s.setPort p x).pending = s.pending := by
  cases p <;> rfl

/-! ### logDrift -/

@[simp] theorem logDrift_image (k : DriftKind) (w : Option Byte) (a : Option Half) (e o : Option Byte) :
    (s.logDrift k w a e o).image = s.image := rfl
@[simp] theorem logDrift_targets (k : DriftKind) (w : Option Byte) (a : Option Half) (e o : Option Byte) :
    (s.logDrift k w a e o).targets = s.targets := rfl
@[simp] theorem logDrift_scrub (k : DriftKind) (w : Option Byte) (a : Option Half) (e o : Option Byte) :
    (s.logDrift k w a e o).scrub = s.scrub := rfl
@[simp] theorem logDrift_command (k : DriftKind) (w : Option Byte) (a : Option Half) (e o : Option Byte) :
    (s.logDrift k w a e o).command = s.command := rfl
@[simp] theorem logDrift_port0 (k : DriftKind) (w : Option Byte) (a : Option Half) (e o : Option Byte) :
    (s.logDrift k w a e o).port0 = s.port0 := rfl
@[simp] theorem logDrift_port1 (k : DriftKind) (w : Option Byte) (a : Option Half) (e o : Option Byte) :
    (s.logDrift k w a e o).port1 = s.port1 := rfl
@[simp] theorem logDrift_queue (k : DriftKind) (w : Option Byte) (a : Option Half) (e o : Option Byte) :
    (s.logDrift k w a e o).queue = s.queue := rfl
@[simp] theorem logDrift_completions (k : DriftKind) (w : Option Byte) (a : Option Half) (e o : Option Byte) :
    (s.logDrift k w a e o).completions = s.completions := rfl
@[simp] theorem logDrift_staging (k : DriftKind) (w : Option Byte) (a : Option Half) (e o : Option Byte) :
    (s.logDrift k w a e o).staging = s.staging := rfl
@[simp] theorem logDrift_sections (k : DriftKind) (w : Option Byte) (a : Option Half) (e o : Option Byte) :
    (s.logDrift k w a e o).sections = s.sections := rfl
@[simp] theorem logDrift_settings (k : DriftKind) (w : Option Byte) (a : Option Half) (e o : Option Byte) :
    (s.logDrift k w a e o).settings = s.settings := rfl
@[simp] theorem logDrift_quiet (k : DriftKind) (w : Option Byte) (a : Option Half) (e o : Option Byte) :
    (s.logDrift k w a e o).quiet = s.quiet := rfl
@[simp] theorem logDrift_resetnLow (k : DriftKind) (w : Option Byte) (a : Option Half) (e o : Option Byte) :
    (s.logDrift k w a e o).resetnLow = s.resetnLow := rfl
@[simp] theorem logDrift_choices (k : DriftKind) (w : Option Byte) (a : Option Half) (e o : Option Byte) :
    (s.logDrift k w a e o).choices = s.choices := rfl
@[simp] theorem logDrift_pending (k : DriftKind) (w : Option Byte) (a : Option Half) (e o : Option Byte) :
    (s.logDrift k w a e o).pending = s.pending := rfl

/-! ### logEntry -/

@[simp] theorem logEntry_image (k : DriftKind) (e : Entry) (o : Byte) :
    (s.logEntry k e o).image = s.image := rfl
@[simp] theorem logEntry_targets (k : DriftKind) (e : Entry) (o : Byte) :
    (s.logEntry k e o).targets = s.targets := rfl
@[simp] theorem logEntry_scrub (k : DriftKind) (e : Entry) (o : Byte) :
    (s.logEntry k e o).scrub = s.scrub := rfl
@[simp] theorem logEntry_command (k : DriftKind) (e : Entry) (o : Byte) :
    (s.logEntry k e o).command = s.command := rfl
@[simp] theorem logEntry_port0 (k : DriftKind) (e : Entry) (o : Byte) :
    (s.logEntry k e o).port0 = s.port0 := rfl
@[simp] theorem logEntry_port1 (k : DriftKind) (e : Entry) (o : Byte) :
    (s.logEntry k e o).port1 = s.port1 := rfl
@[simp] theorem logEntry_queue (k : DriftKind) (e : Entry) (o : Byte) :
    (s.logEntry k e o).queue = s.queue := rfl
@[simp] theorem logEntry_completions (k : DriftKind) (e : Entry) (o : Byte) :
    (s.logEntry k e o).completions = s.completions := rfl
@[simp] theorem logEntry_staging (k : DriftKind) (e : Entry) (o : Byte) :
    (s.logEntry k e o).staging = s.staging := rfl
@[simp] theorem logEntry_sections (k : DriftKind) (e : Entry) (o : Byte) :
    (s.logEntry k e o).sections = s.sections := rfl
@[simp] theorem logEntry_settings (k : DriftKind) (e : Entry) (o : Byte) :
    (s.logEntry k e o).settings = s.settings := rfl
@[simp] theorem logEntry_quiet (k : DriftKind) (e : Entry) (o : Byte) :
    (s.logEntry k e o).quiet = s.quiet := rfl
@[simp] theorem logEntry_resetnLow (k : DriftKind) (e : Entry) (o : Byte) :
    (s.logEntry k e o).resetnLow = s.resetnLow := rfl
@[simp] theorem logEntry_choices (k : DriftKind) (e : Entry) (o : Byte) :
    (s.logEntry k e o).choices = s.choices := rfl
@[simp] theorem logEntry_pending (k : DriftKind) (e : Entry) (o : Byte) :
    (s.logEntry k e o).pending = s.pending := rfl

/-! ### logAlias -/

@[simp] theorem logAlias_image (k : DriftKind) (a : Fin 16) : (s.logAlias k a).image = s.image := rfl
@[simp] theorem logAlias_targets (k : DriftKind) (a : Fin 16) :
    (s.logAlias k a).targets = s.targets := rfl
@[simp] theorem logAlias_scrub (k : DriftKind) (a : Fin 16) : (s.logAlias k a).scrub = s.scrub := rfl
@[simp] theorem logAlias_command (k : DriftKind) (a : Fin 16) :
    (s.logAlias k a).command = s.command := rfl
@[simp] theorem logAlias_port0 (k : DriftKind) (a : Fin 16) : (s.logAlias k a).port0 = s.port0 := rfl
@[simp] theorem logAlias_port1 (k : DriftKind) (a : Fin 16) : (s.logAlias k a).port1 = s.port1 := rfl
@[simp] theorem logAlias_queue (k : DriftKind) (a : Fin 16) : (s.logAlias k a).queue = s.queue := rfl
@[simp] theorem logAlias_completions (k : DriftKind) (a : Fin 16) :
    (s.logAlias k a).completions = s.completions := rfl
@[simp] theorem logAlias_staging (k : DriftKind) (a : Fin 16) :
    (s.logAlias k a).staging = s.staging := rfl
@[simp] theorem logAlias_sections (k : DriftKind) (a : Fin 16) :
    (s.logAlias k a).sections = s.sections := rfl
@[simp] theorem logAlias_settings (k : DriftKind) (a : Fin 16) :
    (s.logAlias k a).settings = s.settings := rfl
@[simp] theorem logAlias_quiet (k : DriftKind) (a : Fin 16) : (s.logAlias k a).quiet = s.quiet := rfl
@[simp] theorem logAlias_resetnLow (k : DriftKind) (a : Fin 16) :
    (s.logAlias k a).resetnLow = s.resetnLow := rfl
@[simp] theorem logAlias_choices (k : DriftKind) (a : Fin 16) :
    (s.logAlias k a).choices = s.choices := rfl
@[simp] theorem logAlias_pending (k : DriftKind) (a : Fin 16) :
    (s.logAlias k a).pending = s.pending := rfl

/-! ### logPort -/

@[simp] theorem logPort_image (k : DriftKind) (p : PortId) : (s.logPort k p).image = s.image := rfl
@[simp] theorem logPort_targets (k : DriftKind) (p : PortId) :
    (s.logPort k p).targets = s.targets := rfl
@[simp] theorem logPort_scrub (k : DriftKind) (p : PortId) : (s.logPort k p).scrub = s.scrub := rfl
@[simp] theorem logPort_command (k : DriftKind) (p : PortId) :
    (s.logPort k p).command = s.command := rfl
@[simp] theorem logPort_port0 (k : DriftKind) (p : PortId) : (s.logPort k p).port0 = s.port0 := rfl
@[simp] theorem logPort_port1 (k : DriftKind) (p : PortId) : (s.logPort k p).port1 = s.port1 := rfl
@[simp] theorem logPort_queue (k : DriftKind) (p : PortId) : (s.logPort k p).queue = s.queue := rfl
@[simp] theorem logPort_completions (k : DriftKind) (p : PortId) :
    (s.logPort k p).completions = s.completions := rfl
@[simp] theorem logPort_staging (k : DriftKind) (p : PortId) :
    (s.logPort k p).staging = s.staging := rfl
@[simp] theorem logPort_sections (k : DriftKind) (p : PortId) :
    (s.logPort k p).sections = s.sections := rfl
@[simp] theorem logPort_settings (k : DriftKind) (p : PortId) :
    (s.logPort k p).settings = s.settings := rfl
@[simp] theorem logPort_quiet (k : DriftKind) (p : PortId) : (s.logPort k p).quiet = s.quiet := rfl
@[simp] theorem logPort_resetnLow (k : DriftKind) (p : PortId) :
    (s.logPort k p).resetnLow = s.resetnLow := rfl
@[simp] theorem logPort_choices (k : DriftKind) (p : PortId) :
    (s.logPort k p).choices = s.choices := rfl
@[simp] theorem logPort_pending (k : DriftKind) (p : PortId) :
    (s.logPort k p).pending = s.pending := rfl

/-! ### setTarget -/

@[simp] theorem setTarget_image (a : Fin 16) (t : Option Target) :
    (s.setTarget a t).image = s.image := rfl
@[simp] theorem setTarget_scrub (a : Fin 16) (t : Option Target) :
    (s.setTarget a t).scrub = s.scrub := rfl
@[simp] theorem setTarget_command (a : Fin 16) (t : Option Target) :
    (s.setTarget a t).command = s.command := rfl
@[simp] theorem setTarget_port0 (a : Fin 16) (t : Option Target) :
    (s.setTarget a t).port0 = s.port0 := rfl
@[simp] theorem setTarget_port1 (a : Fin 16) (t : Option Target) :
    (s.setTarget a t).port1 = s.port1 := rfl
@[simp] theorem setTarget_queue (a : Fin 16) (t : Option Target) :
    (s.setTarget a t).queue = s.queue := rfl
@[simp] theorem setTarget_completions (a : Fin 16) (t : Option Target) :
    (s.setTarget a t).completions = s.completions := rfl
@[simp] theorem setTarget_log (a : Fin 16) (t : Option Target) : (s.setTarget a t).log = s.log := rfl
@[simp] theorem setTarget_staging (a : Fin 16) (t : Option Target) :
    (s.setTarget a t).staging = s.staging := rfl
@[simp] theorem setTarget_sections (a : Fin 16) (t : Option Target) :
    (s.setTarget a t).sections = s.sections := rfl
@[simp] theorem setTarget_settings (a : Fin 16) (t : Option Target) :
    (s.setTarget a t).settings = s.settings := rfl
@[simp] theorem setTarget_quiet (a : Fin 16) (t : Option Target) :
    (s.setTarget a t).quiet = s.quiet := rfl
@[simp] theorem setTarget_resetnLow (a : Fin 16) (t : Option Target) :
    (s.setTarget a t).resetnLow = s.resetnLow := rfl
@[simp] theorem setTarget_choices (a : Fin 16) (t : Option Target) :
    (s.setTarget a t).choices = s.choices := rfl
@[simp] theorem setTarget_pending (a : Fin 16) (t : Option Target) :
    (s.setTarget a t).pending = s.pending := rfl

/-! ### modifyTarget -/

@[simp] theorem modifyTarget_image (a : Fin 16) (f : Target → Target) :
    (s.modifyTarget a f).image = s.image := by
  unfold State.modifyTarget; split <;> rfl
@[simp] theorem modifyTarget_scrub (a : Fin 16) (f : Target → Target) :
    (s.modifyTarget a f).scrub = s.scrub := by
  unfold State.modifyTarget; split <;> rfl
@[simp] theorem modifyTarget_command (a : Fin 16) (f : Target → Target) :
    (s.modifyTarget a f).command = s.command := by
  unfold State.modifyTarget; split <;> rfl
@[simp] theorem modifyTarget_port0 (a : Fin 16) (f : Target → Target) :
    (s.modifyTarget a f).port0 = s.port0 := by
  unfold State.modifyTarget; split <;> rfl
@[simp] theorem modifyTarget_port1 (a : Fin 16) (f : Target → Target) :
    (s.modifyTarget a f).port1 = s.port1 := by
  unfold State.modifyTarget; split <;> rfl
@[simp] theorem modifyTarget_queue (a : Fin 16) (f : Target → Target) :
    (s.modifyTarget a f).queue = s.queue := by
  unfold State.modifyTarget; split <;> rfl
@[simp] theorem modifyTarget_completions (a : Fin 16) (f : Target → Target) :
    (s.modifyTarget a f).completions = s.completions := by
  unfold State.modifyTarget; split <;> rfl
@[simp] theorem modifyTarget_log (a : Fin 16) (f : Target → Target) :
    (s.modifyTarget a f).log = s.log := by
  unfold State.modifyTarget; split <;> rfl
@[simp] theorem modifyTarget_staging (a : Fin 16) (f : Target → Target) :
    (s.modifyTarget a f).staging = s.staging := by
  unfold State.modifyTarget; split <;> rfl
@[simp] theorem modifyTarget_sections (a : Fin 16) (f : Target → Target) :
    (s.modifyTarget a f).sections = s.sections := by
  unfold State.modifyTarget; split <;> rfl
@[simp] theorem modifyTarget_settings (a : Fin 16) (f : Target → Target) :
    (s.modifyTarget a f).settings = s.settings := by
  unfold State.modifyTarget; split <;> rfl
@[simp] theorem modifyTarget_quiet (a : Fin 16) (f : Target → Target) :
    (s.modifyTarget a f).quiet = s.quiet := by
  unfold State.modifyTarget; split <;> rfl
@[simp] theorem modifyTarget_resetnLow (a : Fin 16) (f : Target → Target) :
    (s.modifyTarget a f).resetnLow = s.resetnLow := by
  unfold State.modifyTarget; split <;> rfl
@[simp] theorem modifyTarget_choices (a : Fin 16) (f : Target → Target) :
    (s.modifyTarget a f).choices = s.choices := by
  unfold State.modifyTarget; split <;> rfl
@[simp] theorem modifyTarget_pending (a : Fin 16) (f : Target → Target) :
    (s.modifyTarget a f).pending = s.pending := by
  unfold State.modifyTarget; split <;> rfl

/-! ### claimTarget -/

@[simp] theorem claimTarget_image (a : Fin 16) (g : Engine) :
    (s.claimTarget a g).image = s.image := by
  simp [State.claimTarget]
@[simp] theorem claimTarget_scrub (a : Fin 16) (g : Engine) :
    (s.claimTarget a g).scrub = s.scrub := by
  simp [State.claimTarget]
@[simp] theorem claimTarget_command (a : Fin 16) (g : Engine) :
    (s.claimTarget a g).command = s.command := by
  simp [State.claimTarget]
@[simp] theorem claimTarget_port0 (a : Fin 16) (g : Engine) :
    (s.claimTarget a g).port0 = s.port0 := by
  simp [State.claimTarget]
@[simp] theorem claimTarget_port1 (a : Fin 16) (g : Engine) :
    (s.claimTarget a g).port1 = s.port1 := by
  simp [State.claimTarget]
@[simp] theorem claimTarget_queue (a : Fin 16) (g : Engine) :
    (s.claimTarget a g).queue = s.queue := by
  simp [State.claimTarget]
@[simp] theorem claimTarget_completions (a : Fin 16) (g : Engine) :
    (s.claimTarget a g).completions = s.completions := by
  simp [State.claimTarget]
@[simp] theorem claimTarget_log (a : Fin 16) (g : Engine) : (s.claimTarget a g).log = s.log := by
  simp [State.claimTarget]
@[simp] theorem claimTarget_staging (a : Fin 16) (g : Engine) :
    (s.claimTarget a g).staging = s.staging := by
  simp [State.claimTarget]
@[simp] theorem claimTarget_sections (a : Fin 16) (g : Engine) :
    (s.claimTarget a g).sections = s.sections := by
  simp [State.claimTarget]
@[simp] theorem claimTarget_settings (a : Fin 16) (g : Engine) :
    (s.claimTarget a g).settings = s.settings := by
  simp [State.claimTarget]
@[simp] theorem claimTarget_quiet (a : Fin 16) (g : Engine) :
    (s.claimTarget a g).quiet = s.quiet := by
  simp [State.claimTarget]
@[simp] theorem claimTarget_resetnLow (a : Fin 16) (g : Engine) :
    (s.claimTarget a g).resetnLow = s.resetnLow := by
  simp [State.claimTarget]
@[simp] theorem claimTarget_choices (a : Fin 16) (g : Engine) :
    (s.claimTarget a g).choices = s.choices := by
  simp [State.claimTarget]
@[simp] theorem claimTarget_pending (a : Fin 16) (g : Engine) :
    (s.claimTarget a g).pending = s.pending := by
  simp [State.claimTarget]

/-! ### changeImage -/

@[simp] theorem changeImage_targets (es : List Entry) : (s.changeImage es).targets = s.targets := rfl
@[simp] theorem changeImage_scrub (es : List Entry) : (s.changeImage es).scrub = s.scrub := rfl
@[simp] theorem changeImage_command (es : List Entry) : (s.changeImage es).command = s.command := rfl
@[simp] theorem changeImage_port0 (es : List Entry) : (s.changeImage es).port0 = s.port0 := rfl
@[simp] theorem changeImage_port1 (es : List Entry) : (s.changeImage es).port1 = s.port1 := rfl
@[simp] theorem changeImage_queue (es : List Entry) : (s.changeImage es).queue = s.queue := rfl
@[simp] theorem changeImage_completions (es : List Entry) :
    (s.changeImage es).completions = s.completions := rfl
@[simp] theorem changeImage_log (es : List Entry) : (s.changeImage es).log = s.log := rfl
@[simp] theorem changeImage_staging (es : List Entry) : (s.changeImage es).staging = s.staging := rfl
@[simp] theorem changeImage_sections (es : List Entry) :
    (s.changeImage es).sections = s.sections := rfl
@[simp] theorem changeImage_settings (es : List Entry) :
    (s.changeImage es).settings = s.settings := rfl
@[simp] theorem changeImage_quiet (es : List Entry) : (s.changeImage es).quiet = s.quiet := rfl
@[simp] theorem changeImage_resetnLow (es : List Entry) :
    (s.changeImage es).resetnLow = s.resetnLow := rfl
@[simp] theorem changeImage_choices (es : List Entry) : (s.changeImage es).choices = s.choices := rfl
@[simp] theorem changeImage_pending (es : List Entry) : (s.changeImage es).pending = s.pending := rfl

/-! ### modifyEntry -/

@[simp] theorem modifyEntry_targets (k : Key) (f : Entry → Entry) :
    (s.modifyEntry k f).targets = s.targets := rfl
@[simp] theorem modifyEntry_scrub (k : Key) (f : Entry → Entry) :
    (s.modifyEntry k f).scrub = s.scrub := rfl
@[simp] theorem modifyEntry_command (k : Key) (f : Entry → Entry) :
    (s.modifyEntry k f).command = s.command := rfl
@[simp] theorem modifyEntry_port0 (k : Key) (f : Entry → Entry) :
    (s.modifyEntry k f).port0 = s.port0 := rfl
@[simp] theorem modifyEntry_port1 (k : Key) (f : Entry → Entry) :
    (s.modifyEntry k f).port1 = s.port1 := rfl
@[simp] theorem modifyEntry_queue (k : Key) (f : Entry → Entry) :
    (s.modifyEntry k f).queue = s.queue := rfl
@[simp] theorem modifyEntry_completions (k : Key) (f : Entry → Entry) :
    (s.modifyEntry k f).completions = s.completions := rfl
@[simp] theorem modifyEntry_log (k : Key) (f : Entry → Entry) :
    (s.modifyEntry k f).log = s.log := rfl
@[simp] theorem modifyEntry_staging (k : Key) (f : Entry → Entry) :
    (s.modifyEntry k f).staging = s.staging := rfl
@[simp] theorem modifyEntry_sections (k : Key) (f : Entry → Entry) :
    (s.modifyEntry k f).sections = s.sections := rfl
@[simp] theorem modifyEntry_settings (k : Key) (f : Entry → Entry) :
    (s.modifyEntry k f).settings = s.settings := rfl
@[simp] theorem modifyEntry_quiet (k : Key) (f : Entry → Entry) :
    (s.modifyEntry k f).quiet = s.quiet := rfl
@[simp] theorem modifyEntry_resetnLow (k : Key) (f : Entry → Entry) :
    (s.modifyEntry k f).resetnLow = s.resetnLow := rfl
@[simp] theorem modifyEntry_choices (k : Key) (f : Entry → Entry) :
    (s.modifyEntry k f).choices = s.choices := rfl
@[simp] theorem modifyEntry_pending (k : Key) (f : Entry → Entry) :
    (s.modifyEntry k f).pending = s.pending := rfl

/-! ### markStale -/

@[simp] theorem markStale_image (k : Key) : (s.markStale k).image = s.image := by
  unfold State.markStale; split <;> rfl
@[simp] theorem markStale_targets (k : Key) : (s.markStale k).targets = s.targets := by
  unfold State.markStale; split <;> rfl
@[simp] theorem markStale_command (k : Key) : (s.markStale k).command = s.command := by
  unfold State.markStale; split <;> rfl
@[simp] theorem markStale_port0 (k : Key) : (s.markStale k).port0 = s.port0 := by
  unfold State.markStale; split <;> rfl
@[simp] theorem markStale_port1 (k : Key) : (s.markStale k).port1 = s.port1 := by
  unfold State.markStale; split <;> rfl
@[simp] theorem markStale_queue (k : Key) : (s.markStale k).queue = s.queue := by
  unfold State.markStale; split <;> rfl
@[simp] theorem markStale_completions (k : Key) : (s.markStale k).completions = s.completions := by
  unfold State.markStale; split <;> rfl
@[simp] theorem markStale_log (k : Key) : (s.markStale k).log = s.log := by
  unfold State.markStale; split <;> rfl
@[simp] theorem markStale_staging (k : Key) : (s.markStale k).staging = s.staging := by
  unfold State.markStale; split <;> rfl
@[simp] theorem markStale_sections (k : Key) : (s.markStale k).sections = s.sections := by
  unfold State.markStale; split <;> rfl
@[simp] theorem markStale_settings (k : Key) : (s.markStale k).settings = s.settings := by
  unfold State.markStale; split <;> rfl
@[simp] theorem markStale_quiet (k : Key) : (s.markStale k).quiet = s.quiet := by
  unfold State.markStale; split <;> rfl
@[simp] theorem markStale_resetnLow (k : Key) : (s.markStale k).resetnLow = s.resetnLow := by
  unfold State.markStale; split <;> rfl
@[simp] theorem markStale_choices (k : Key) : (s.markStale k).choices = s.choices := by
  unfold State.markStale; split <;> rfl
@[simp] theorem markStale_pending (k : Key) : (s.markStale k).pending = s.pending := by
  unfold State.markStale; split <;> rfl

/-! ### startPacing -/

@[simp] theorem startPacing_image : s.startPacing.image = s.image := rfl
@[simp] theorem startPacing_targets : s.startPacing.targets = s.targets := rfl
@[simp] theorem startPacing_command : s.startPacing.command = s.command := rfl
@[simp] theorem startPacing_port0 : s.startPacing.port0 = s.port0 := rfl
@[simp] theorem startPacing_port1 : s.startPacing.port1 = s.port1 := rfl
@[simp] theorem startPacing_queue : s.startPacing.queue = s.queue := rfl
@[simp] theorem startPacing_completions : s.startPacing.completions = s.completions := rfl
@[simp] theorem startPacing_log : s.startPacing.log = s.log := rfl
@[simp] theorem startPacing_staging : s.startPacing.staging = s.staging := rfl
@[simp] theorem startPacing_sections : s.startPacing.sections = s.sections := rfl
@[simp] theorem startPacing_settings : s.startPacing.settings = s.settings := rfl
@[simp] theorem startPacing_quiet : s.startPacing.quiet = s.quiet := rfl
@[simp] theorem startPacing_resetnLow : s.startPacing.resetnLow = s.resetnLow := rfl
@[simp] theorem startPacing_choices : s.startPacing.choices = s.choices := rfl
@[simp] theorem startPacing_pending : s.startPacing.pending = s.pending := rfl

/-! ### scrubIdle -/

@[simp] theorem scrubIdle_image (d : Bool) : (s.scrubIdle d).image = s.image := rfl
@[simp] theorem scrubIdle_targets (d : Bool) : (s.scrubIdle d).targets = s.targets := rfl
@[simp] theorem scrubIdle_command (d : Bool) : (s.scrubIdle d).command = s.command := rfl
@[simp] theorem scrubIdle_port0 (d : Bool) : (s.scrubIdle d).port0 = s.port0 := rfl
@[simp] theorem scrubIdle_port1 (d : Bool) : (s.scrubIdle d).port1 = s.port1 := rfl
@[simp] theorem scrubIdle_queue (d : Bool) : (s.scrubIdle d).queue = s.queue := rfl
@[simp] theorem scrubIdle_completions (d : Bool) : (s.scrubIdle d).completions = s.completions := rfl
@[simp] theorem scrubIdle_log (d : Bool) : (s.scrubIdle d).log = s.log := rfl
@[simp] theorem scrubIdle_staging (d : Bool) : (s.scrubIdle d).staging = s.staging := rfl
@[simp] theorem scrubIdle_settings (d : Bool) : (s.scrubIdle d).settings = s.settings := rfl
@[simp] theorem scrubIdle_quiet (d : Bool) : (s.scrubIdle d).quiet = s.quiet := rfl
@[simp] theorem scrubIdle_resetnLow (d : Bool) : (s.scrubIdle d).resetnLow = s.resetnLow := rfl
@[simp] theorem scrubIdle_choices (d : Bool) : (s.scrubIdle d).choices = s.choices := rfl
@[simp] theorem scrubIdle_pending (d : Bool) : (s.scrubIdle d).pending = s.pending := rfl

/-! ### finish -/

@[simp] theorem finish_image (r : Completion) : (s.finish r).image = s.image := rfl
@[simp] theorem finish_targets (r : Completion) : (s.finish r).targets = s.targets := rfl
@[simp] theorem finish_scrub (r : Completion) : (s.finish r).scrub = s.scrub := rfl
@[simp] theorem finish_port0 (r : Completion) : (s.finish r).port0 = s.port0 := rfl
@[simp] theorem finish_port1 (r : Completion) : (s.finish r).port1 = s.port1 := rfl
@[simp] theorem finish_queue (r : Completion) : (s.finish r).queue = s.queue := rfl
@[simp] theorem finish_log (r : Completion) : (s.finish r).log = s.log := rfl
@[simp] theorem finish_staging (r : Completion) : (s.finish r).staging = s.staging := rfl
@[simp] theorem finish_sections (r : Completion) : (s.finish r).sections = s.sections := rfl
@[simp] theorem finish_settings (r : Completion) : (s.finish r).settings = s.settings := rfl
@[simp] theorem finish_quiet (r : Completion) : (s.finish r).quiet = s.quiet := rfl
@[simp] theorem finish_resetnLow (r : Completion) : (s.finish r).resetnLow = s.resetnLow := rfl
@[simp] theorem finish_choices (r : Completion) : (s.finish r).choices = s.choices := rfl
@[simp] theorem finish_pending (r : Completion) : (s.finish r).pending = s.pending := rfl

/-! ### setCommand -/

@[simp] theorem setCommand_image (c : Staged) (g : Progress) :
    (s.setCommand c g).image = s.image := rfl
@[simp] theorem setCommand_targets (c : Staged) (g : Progress) :
    (s.setCommand c g).targets = s.targets := rfl
@[simp] theorem setCommand_scrub (c : Staged) (g : Progress) :
    (s.setCommand c g).scrub = s.scrub := rfl
@[simp] theorem setCommand_port0 (c : Staged) (g : Progress) :
    (s.setCommand c g).port0 = s.port0 := rfl
@[simp] theorem setCommand_port1 (c : Staged) (g : Progress) :
    (s.setCommand c g).port1 = s.port1 := rfl
@[simp] theorem setCommand_queue (c : Staged) (g : Progress) :
    (s.setCommand c g).queue = s.queue := rfl
@[simp] theorem setCommand_completions (c : Staged) (g : Progress) :
    (s.setCommand c g).completions = s.completions := rfl
@[simp] theorem setCommand_log (c : Staged) (g : Progress) : (s.setCommand c g).log = s.log := rfl
@[simp] theorem setCommand_staging (c : Staged) (g : Progress) :
    (s.setCommand c g).staging = s.staging := rfl
@[simp] theorem setCommand_sections (c : Staged) (g : Progress) :
    (s.setCommand c g).sections = s.sections := rfl
@[simp] theorem setCommand_settings (c : Staged) (g : Progress) :
    (s.setCommand c g).settings = s.settings := rfl
@[simp] theorem setCommand_quiet (c : Staged) (g : Progress) :
    (s.setCommand c g).quiet = s.quiet := rfl
@[simp] theorem setCommand_resetnLow (c : Staged) (g : Progress) :
    (s.setCommand c g).resetnLow = s.resetnLow := rfl
@[simp] theorem setCommand_choices (c : Staged) (g : Progress) :
    (s.setCommand c g).choices = s.choices := rfl
@[simp] theorem setCommand_pending (c : Staged) (g : Progress) :
    (s.setCommand c g).pending = s.pending := rfl

/-! ### enqueue -/

@[simp] theorem enqueue_image (p : PortId) (r : Request) : (s.enqueue p r).image = s.image := by
  simp [State.enqueue]
@[simp] theorem enqueue_targets (p : PortId) (r : Request) :
    (s.enqueue p r).targets = s.targets := by
  simp [State.enqueue]
@[simp] theorem enqueue_scrub (p : PortId) (r : Request) : (s.enqueue p r).scrub = s.scrub := by
  simp [State.enqueue]
@[simp] theorem enqueue_command (p : PortId) (r : Request) :
    (s.enqueue p r).command = s.command := by
  simp [State.enqueue]
@[simp] theorem enqueue_queue (p : PortId) (r : Request) : (s.enqueue p r).queue = s.queue := by
  simp [State.enqueue]
@[simp] theorem enqueue_completions (p : PortId) (r : Request) :
    (s.enqueue p r).completions = s.completions := by
  simp [State.enqueue]
@[simp] theorem enqueue_log (p : PortId) (r : Request) : (s.enqueue p r).log = s.log := by
  simp [State.enqueue]
@[simp] theorem enqueue_staging (p : PortId) (r : Request) :
    (s.enqueue p r).staging = s.staging := by
  simp [State.enqueue]
@[simp] theorem enqueue_sections (p : PortId) (r : Request) :
    (s.enqueue p r).sections = s.sections := by
  simp [State.enqueue]
@[simp] theorem enqueue_settings (p : PortId) (r : Request) :
    (s.enqueue p r).settings = s.settings := by
  simp [State.enqueue]
@[simp] theorem enqueue_quiet (p : PortId) (r : Request) : (s.enqueue p r).quiet = s.quiet := by
  simp [State.enqueue]
@[simp] theorem enqueue_resetnLow (p : PortId) (r : Request) :
    (s.enqueue p r).resetnLow = s.resetnLow := by
  simp [State.enqueue]
@[simp] theorem enqueue_choices (p : PortId) (r : Request) :
    (s.enqueue p r).choices = s.choices := by
  simp [State.enqueue]
@[simp] theorem enqueue_pending (p : PortId) (r : Request) :
    (s.enqueue p r).pending = s.pending := by
  simp [State.enqueue]

/-! ### startRounds -/

@[simp] theorem startRounds_image (p : PortId) (o : RecoveryOrigin) :
    (s.startRounds p o).image = s.image := by
  simp [State.startRounds]
@[simp] theorem startRounds_targets (p : PortId) (o : RecoveryOrigin) :
    (s.startRounds p o).targets = s.targets := by
  simp [State.startRounds]
@[simp] theorem startRounds_scrub (p : PortId) (o : RecoveryOrigin) :
    (s.startRounds p o).scrub = s.scrub := by
  simp [State.startRounds]
@[simp] theorem startRounds_command (p : PortId) (o : RecoveryOrigin) :
    (s.startRounds p o).command = s.command := by
  simp [State.startRounds]
@[simp] theorem startRounds_queue (p : PortId) (o : RecoveryOrigin) :
    (s.startRounds p o).queue = s.queue := by
  simp [State.startRounds]
@[simp] theorem startRounds_completions (p : PortId) (o : RecoveryOrigin) :
    (s.startRounds p o).completions = s.completions := by
  simp [State.startRounds]
@[simp] theorem startRounds_log (p : PortId) (o : RecoveryOrigin) :
    (s.startRounds p o).log = s.log := by
  simp [State.startRounds]
@[simp] theorem startRounds_staging (p : PortId) (o : RecoveryOrigin) :
    (s.startRounds p o).staging = s.staging := by
  simp [State.startRounds]
@[simp] theorem startRounds_sections (p : PortId) (o : RecoveryOrigin) :
    (s.startRounds p o).sections = s.sections := by
  simp [State.startRounds]
@[simp] theorem startRounds_settings (p : PortId) (o : RecoveryOrigin) :
    (s.startRounds p o).settings = s.settings := by
  simp [State.startRounds]
@[simp] theorem startRounds_quiet (p : PortId) (o : RecoveryOrigin) :
    (s.startRounds p o).quiet = s.quiet := by
  simp [State.startRounds]
@[simp] theorem startRounds_resetnLow (p : PortId) (o : RecoveryOrigin) :
    (s.startRounds p o).resetnLow = s.resetnLow := by
  simp [State.startRounds]
@[simp] theorem startRounds_choices (p : PortId) (o : RecoveryOrigin) :
    (s.startRounds p o).choices = s.choices := by
  simp [State.startRounds]
@[simp] theorem startRounds_pending (p : PortId) (o : RecoveryOrigin) :
    (s.startRounds p o).pending = s.pending := by
  simp [State.startRounds]

/-! ### portIdle -/

@[simp] theorem portIdle_image (p : PortId) : (s.portIdle p).image = s.image := by
  simp [State.portIdle]
@[simp] theorem portIdle_targets (p : PortId) : (s.portIdle p).targets = s.targets := by
  simp [State.portIdle]
@[simp] theorem portIdle_scrub (p : PortId) : (s.portIdle p).scrub = s.scrub := by
  simp [State.portIdle]
@[simp] theorem portIdle_command (p : PortId) : (s.portIdle p).command = s.command := by
  simp [State.portIdle]
@[simp] theorem portIdle_queue (p : PortId) : (s.portIdle p).queue = s.queue := by
  simp [State.portIdle]
@[simp] theorem portIdle_completions (p : PortId) : (s.portIdle p).completions = s.completions := by
  simp [State.portIdle]
@[simp] theorem portIdle_log (p : PortId) : (s.portIdle p).log = s.log := by
  simp [State.portIdle]
@[simp] theorem portIdle_staging (p : PortId) : (s.portIdle p).staging = s.staging := by
  simp [State.portIdle]
@[simp] theorem portIdle_sections (p : PortId) : (s.portIdle p).sections = s.sections := by
  simp [State.portIdle]
@[simp] theorem portIdle_settings (p : PortId) : (s.portIdle p).settings = s.settings := by
  simp [State.portIdle]
@[simp] theorem portIdle_quiet (p : PortId) : (s.portIdle p).quiet = s.quiet := by
  simp [State.portIdle]
@[simp] theorem portIdle_resetnLow (p : PortId) : (s.portIdle p).resetnLow = s.resetnLow := by
  simp [State.portIdle]
@[simp] theorem portIdle_choices (p : PortId) : (s.portIdle p).choices = s.choices := by
  simp [State.portIdle]
@[simp] theorem portIdle_pending (p : PortId) : (s.portIdle p).pending = s.pending := by
  simp [State.portIdle]

/-! ### setRepair -/

@[simp] theorem setRepair_image (r : Repair) : (s.setRepair r).image = s.image := rfl
@[simp] theorem setRepair_targets (r : Repair) : (s.setRepair r).targets = s.targets := rfl
@[simp] theorem setRepair_command (r : Repair) : (s.setRepair r).command = s.command := rfl
@[simp] theorem setRepair_port0 (r : Repair) : (s.setRepair r).port0 = s.port0 := rfl
@[simp] theorem setRepair_port1 (r : Repair) : (s.setRepair r).port1 = s.port1 := rfl
@[simp] theorem setRepair_queue (r : Repair) : (s.setRepair r).queue = s.queue := rfl
@[simp] theorem setRepair_completions (r : Repair) :
    (s.setRepair r).completions = s.completions := rfl
@[simp] theorem setRepair_log (r : Repair) : (s.setRepair r).log = s.log := rfl
@[simp] theorem setRepair_staging (r : Repair) : (s.setRepair r).staging = s.staging := rfl
@[simp] theorem setRepair_sections (r : Repair) : (s.setRepair r).sections = s.sections := rfl
@[simp] theorem setRepair_settings (r : Repair) : (s.setRepair r).settings = s.settings := rfl
@[simp] theorem setRepair_quiet (r : Repair) : (s.setRepair r).quiet = s.quiet := rfl
@[simp] theorem setRepair_resetnLow (r : Repair) : (s.setRepair r).resetnLow = s.resetnLow := rfl
@[simp] theorem setRepair_choices (r : Repair) : (s.setRepair r).choices = s.choices := rfl
@[simp] theorem setRepair_pending (r : Repair) : (s.setRepair r).pending = s.pending := rfl

/-! ### takeCompare -/

@[simp] theorem takeCompare_targets (e : Entry) (v : Byte) :
    (s.takeCompare e v).targets = s.targets := by
  unfold State.takeCompare; dsimp only; (repeat' split) <;> simp
@[simp] theorem takeCompare_scrub (e : Entry) (v : Byte) : (s.takeCompare e v).scrub = s.scrub := by
  unfold State.takeCompare; dsimp only; (repeat' split) <;> simp
@[simp] theorem takeCompare_command (e : Entry) (v : Byte) :
    (s.takeCompare e v).command = s.command := by
  unfold State.takeCompare; dsimp only; (repeat' split) <;> simp
@[simp] theorem takeCompare_port0 (e : Entry) (v : Byte) : (s.takeCompare e v).port0 = s.port0 := by
  unfold State.takeCompare; dsimp only; (repeat' split) <;> simp
@[simp] theorem takeCompare_port1 (e : Entry) (v : Byte) : (s.takeCompare e v).port1 = s.port1 := by
  unfold State.takeCompare; dsimp only; (repeat' split) <;> simp
@[simp] theorem takeCompare_queue (e : Entry) (v : Byte) : (s.takeCompare e v).queue = s.queue := by
  unfold State.takeCompare; dsimp only; (repeat' split) <;> simp
@[simp] theorem takeCompare_completions (e : Entry) (v : Byte) :
    (s.takeCompare e v).completions = s.completions := by
  unfold State.takeCompare; dsimp only; (repeat' split) <;> simp
@[simp] theorem takeCompare_staging (e : Entry) (v : Byte) :
    (s.takeCompare e v).staging = s.staging := by
  unfold State.takeCompare; dsimp only; (repeat' split) <;> simp
@[simp] theorem takeCompare_sections (e : Entry) (v : Byte) :
    (s.takeCompare e v).sections = s.sections := by
  unfold State.takeCompare; dsimp only; (repeat' split) <;> simp
@[simp] theorem takeCompare_settings (e : Entry) (v : Byte) :
    (s.takeCompare e v).settings = s.settings := by
  unfold State.takeCompare; dsimp only; (repeat' split) <;> simp
@[simp] theorem takeCompare_quiet (e : Entry) (v : Byte) : (s.takeCompare e v).quiet = s.quiet := by
  unfold State.takeCompare; dsimp only; (repeat' split) <;> simp
@[simp] theorem takeCompare_resetnLow (e : Entry) (v : Byte) :
    (s.takeCompare e v).resetnLow = s.resetnLow := by
  unfold State.takeCompare; dsimp only; (repeat' split) <;> simp
@[simp] theorem takeCompare_choices (e : Entry) (v : Byte) :
    (s.takeCompare e v).choices = s.choices := by
  unfold State.takeCompare; dsimp only; (repeat' split) <;> simp
@[simp] theorem takeCompare_pending (e : Entry) (v : Byte) :
    (s.takeCompare e v).pending = s.pending := by
  unfold State.takeCompare; dsimp only; (repeat' split) <;> simp

/-! ### takeRepairVerify -/

@[simp] theorem takeRepairVerify_targets (e : Entry) (v : Byte) :
    (s.takeRepairVerify e v).targets = s.targets := by
  unfold State.takeRepairVerify; dsimp only; (repeat' split) <;> simp
@[simp] theorem takeRepairVerify_scrub (e : Entry) (v : Byte) :
    (s.takeRepairVerify e v).scrub = s.scrub := by
  unfold State.takeRepairVerify; dsimp only; (repeat' split) <;> simp
@[simp] theorem takeRepairVerify_command (e : Entry) (v : Byte) :
    (s.takeRepairVerify e v).command = s.command := by
  unfold State.takeRepairVerify; dsimp only; (repeat' split) <;> simp
@[simp] theorem takeRepairVerify_port0 (e : Entry) (v : Byte) :
    (s.takeRepairVerify e v).port0 = s.port0 := by
  unfold State.takeRepairVerify; dsimp only; (repeat' split) <;> simp
@[simp] theorem takeRepairVerify_port1 (e : Entry) (v : Byte) :
    (s.takeRepairVerify e v).port1 = s.port1 := by
  unfold State.takeRepairVerify; dsimp only; (repeat' split) <;> simp
@[simp] theorem takeRepairVerify_queue (e : Entry) (v : Byte) :
    (s.takeRepairVerify e v).queue = s.queue := by
  unfold State.takeRepairVerify; dsimp only; (repeat' split) <;> simp
@[simp] theorem takeRepairVerify_completions (e : Entry) (v : Byte) :
    (s.takeRepairVerify e v).completions = s.completions := by
  unfold State.takeRepairVerify; dsimp only; (repeat' split) <;> simp
@[simp] theorem takeRepairVerify_staging (e : Entry) (v : Byte) :
    (s.takeRepairVerify e v).staging = s.staging := by
  unfold State.takeRepairVerify; dsimp only; (repeat' split) <;> simp
@[simp] theorem takeRepairVerify_sections (e : Entry) (v : Byte) :
    (s.takeRepairVerify e v).sections = s.sections := by
  unfold State.takeRepairVerify; dsimp only; (repeat' split) <;> simp
@[simp] theorem takeRepairVerify_settings (e : Entry) (v : Byte) :
    (s.takeRepairVerify e v).settings = s.settings := by
  unfold State.takeRepairVerify; dsimp only; (repeat' split) <;> simp
@[simp] theorem takeRepairVerify_quiet (e : Entry) (v : Byte) :
    (s.takeRepairVerify e v).quiet = s.quiet := by
  unfold State.takeRepairVerify; dsimp only; (repeat' split) <;> simp
@[simp] theorem takeRepairVerify_resetnLow (e : Entry) (v : Byte) :
    (s.takeRepairVerify e v).resetnLow = s.resetnLow := by
  unfold State.takeRepairVerify; dsimp only; (repeat' split) <;> simp
@[simp] theorem takeRepairVerify_choices (e : Entry) (v : Byte) :
    (s.takeRepairVerify e v).choices = s.choices := by
  unfold State.takeRepairVerify; dsimp only; (repeat' split) <;> simp
@[simp] theorem takeRepairVerify_pending (e : Entry) (v : Byte) :
    (s.takeRepairVerify e v).pending = s.pending := by
  unfold State.takeRepairVerify; dsimp only; (repeat' split) <;> simp

/-! ### takeApplyVerify -/

@[simp] theorem takeApplyVerify_targets (e : Entry) (v : Byte) :
    (s.takeApplyVerify e v).targets = s.targets := by
  unfold State.takeApplyVerify; dsimp only; (repeat' split) <;> simp
@[simp] theorem takeApplyVerify_scrub (e : Entry) (v : Byte) :
    (s.takeApplyVerify e v).scrub = s.scrub := by
  unfold State.takeApplyVerify; dsimp only; (repeat' split) <;> simp
@[simp] theorem takeApplyVerify_command (e : Entry) (v : Byte) :
    (s.takeApplyVerify e v).command = s.command := by
  unfold State.takeApplyVerify; dsimp only; (repeat' split) <;> simp
@[simp] theorem takeApplyVerify_port0 (e : Entry) (v : Byte) :
    (s.takeApplyVerify e v).port0 = s.port0 := by
  unfold State.takeApplyVerify; dsimp only; (repeat' split) <;> simp
@[simp] theorem takeApplyVerify_port1 (e : Entry) (v : Byte) :
    (s.takeApplyVerify e v).port1 = s.port1 := by
  unfold State.takeApplyVerify; dsimp only; (repeat' split) <;> simp
@[simp] theorem takeApplyVerify_queue (e : Entry) (v : Byte) :
    (s.takeApplyVerify e v).queue = s.queue := by
  unfold State.takeApplyVerify; dsimp only; (repeat' split) <;> simp
@[simp] theorem takeApplyVerify_completions (e : Entry) (v : Byte) :
    (s.takeApplyVerify e v).completions = s.completions := by
  unfold State.takeApplyVerify; dsimp only; (repeat' split) <;> simp
@[simp] theorem takeApplyVerify_staging (e : Entry) (v : Byte) :
    (s.takeApplyVerify e v).staging = s.staging := by
  unfold State.takeApplyVerify; dsimp only; (repeat' split) <;> simp
@[simp] theorem takeApplyVerify_sections (e : Entry) (v : Byte) :
    (s.takeApplyVerify e v).sections = s.sections := by
  unfold State.takeApplyVerify; dsimp only; (repeat' split) <;> simp
@[simp] theorem takeApplyVerify_settings (e : Entry) (v : Byte) :
    (s.takeApplyVerify e v).settings = s.settings := by
  unfold State.takeApplyVerify; dsimp only; (repeat' split) <;> simp
@[simp] theorem takeApplyVerify_quiet (e : Entry) (v : Byte) :
    (s.takeApplyVerify e v).quiet = s.quiet := by
  unfold State.takeApplyVerify; dsimp only; (repeat' split) <;> simp
@[simp] theorem takeApplyVerify_resetnLow (e : Entry) (v : Byte) :
    (s.takeApplyVerify e v).resetnLow = s.resetnLow := by
  unfold State.takeApplyVerify; dsimp only; (repeat' split) <;> simp
@[simp] theorem takeApplyVerify_choices (e : Entry) (v : Byte) :
    (s.takeApplyVerify e v).choices = s.choices := by
  unfold State.takeApplyVerify; dsimp only; (repeat' split) <;> simp
@[simp] theorem takeApplyVerify_pending (e : Entry) (v : Byte) :
    (s.takeApplyVerify e v).pending = s.pending := by
  unfold State.takeApplyVerify; dsimp only; (repeat' split) <;> simp

/-! ### countFailure -/

@[simp] theorem countFailure_image (a : Fin 16) (t : Target) :
    (s.countFailure a t).image = s.image := by
  unfold State.countFailure; dsimp only; split <;> simp
@[simp] theorem countFailure_scrub (a : Fin 16) (t : Target) :
    (s.countFailure a t).scrub = s.scrub := by
  unfold State.countFailure; dsimp only; split <;> simp
@[simp] theorem countFailure_command (a : Fin 16) (t : Target) :
    (s.countFailure a t).command = s.command := by
  unfold State.countFailure; dsimp only; split <;> simp
@[simp] theorem countFailure_port0 (a : Fin 16) (t : Target) :
    (s.countFailure a t).port0 = s.port0 := by
  unfold State.countFailure; dsimp only; split <;> simp
@[simp] theorem countFailure_port1 (a : Fin 16) (t : Target) :
    (s.countFailure a t).port1 = s.port1 := by
  unfold State.countFailure; dsimp only; split <;> simp
@[simp] theorem countFailure_queue (a : Fin 16) (t : Target) :
    (s.countFailure a t).queue = s.queue := by
  unfold State.countFailure; dsimp only; split <;> simp
@[simp] theorem countFailure_completions (a : Fin 16) (t : Target) :
    (s.countFailure a t).completions = s.completions := by
  unfold State.countFailure; dsimp only; split <;> simp
@[simp] theorem countFailure_staging (a : Fin 16) (t : Target) :
    (s.countFailure a t).staging = s.staging := by
  unfold State.countFailure; dsimp only; split <;> simp
@[simp] theorem countFailure_sections (a : Fin 16) (t : Target) :
    (s.countFailure a t).sections = s.sections := by
  unfold State.countFailure; dsimp only; split <;> simp
@[simp] theorem countFailure_settings (a : Fin 16) (t : Target) :
    (s.countFailure a t).settings = s.settings := by
  unfold State.countFailure; dsimp only; split <;> simp
@[simp] theorem countFailure_quiet (a : Fin 16) (t : Target) :
    (s.countFailure a t).quiet = s.quiet := by
  unfold State.countFailure; dsimp only; split <;> simp
@[simp] theorem countFailure_resetnLow (a : Fin 16) (t : Target) :
    (s.countFailure a t).resetnLow = s.resetnLow := by
  unfold State.countFailure; dsimp only; split <;> simp
@[simp] theorem countFailure_choices (a : Fin 16) (t : Target) :
    (s.countFailure a t).choices = s.choices := by
  unfold State.countFailure; dsimp only; split <;> simp
@[simp] theorem countFailure_pending (a : Fin 16) (t : Target) :
    (s.countFailure a t).pending = s.pending := by
  unfold State.countFailure; dsimp only; split <;> simp

/-! ### report -/

@[simp] theorem report_image (a : Fin 16) (p : PortId) (d : BitVec 7) (o : BusOutcome) :
    (s.report a p d o).image = s.image := by
  unfold State.report; (repeat' split) <;> simp
@[simp] theorem report_scrub (a : Fin 16) (p : PortId) (d : BitVec 7) (o : BusOutcome) :
    (s.report a p d o).scrub = s.scrub := by
  unfold State.report; (repeat' split) <;> simp
@[simp] theorem report_command (a : Fin 16) (p : PortId) (d : BitVec 7) (o : BusOutcome) :
    (s.report a p d o).command = s.command := by
  unfold State.report; (repeat' split) <;> simp
@[simp] theorem report_port0 (a : Fin 16) (p : PortId) (d : BitVec 7) (o : BusOutcome) :
    (s.report a p d o).port0 = s.port0 := by
  unfold State.report; (repeat' split) <;> simp
@[simp] theorem report_port1 (a : Fin 16) (p : PortId) (d : BitVec 7) (o : BusOutcome) :
    (s.report a p d o).port1 = s.port1 := by
  unfold State.report; (repeat' split) <;> simp
@[simp] theorem report_queue (a : Fin 16) (p : PortId) (d : BitVec 7) (o : BusOutcome) :
    (s.report a p d o).queue = s.queue := by
  unfold State.report; (repeat' split) <;> simp
@[simp] theorem report_completions (a : Fin 16) (p : PortId) (d : BitVec 7) (o : BusOutcome) :
    (s.report a p d o).completions = s.completions := by
  unfold State.report; (repeat' split) <;> simp
@[simp] theorem report_staging (a : Fin 16) (p : PortId) (d : BitVec 7) (o : BusOutcome) :
    (s.report a p d o).staging = s.staging := by
  unfold State.report; (repeat' split) <;> simp
@[simp] theorem report_sections (a : Fin 16) (p : PortId) (d : BitVec 7) (o : BusOutcome) :
    (s.report a p d o).sections = s.sections := by
  unfold State.report; (repeat' split) <;> simp
@[simp] theorem report_settings (a : Fin 16) (p : PortId) (d : BitVec 7) (o : BusOutcome) :
    (s.report a p d o).settings = s.settings := by
  unfold State.report; (repeat' split) <;> simp
@[simp] theorem report_quiet (a : Fin 16) (p : PortId) (d : BitVec 7) (o : BusOutcome) :
    (s.report a p d o).quiet = s.quiet := by
  unfold State.report; (repeat' split) <;> simp
@[simp] theorem report_resetnLow (a : Fin 16) (p : PortId) (d : BitVec 7) (o : BusOutcome) :
    (s.report a p d o).resetnLow = s.resetnLow := by
  unfold State.report; (repeat' split) <;> simp
@[simp] theorem report_choices (a : Fin 16) (p : PortId) (d : BitVec 7) (o : BusOutcome) :
    (s.report a p d o).choices = s.choices := by
  unfold State.report; (repeat' split) <;> simp
@[simp] theorem report_pending (a : Fin 16) (p : PortId) (d : BitVec 7) (o : BusOutcome) :
    (s.report a p d o).pending = s.pending := by
  unfold State.report; (repeat' split) <;> simp

/-! ### takeDetection -/

@[simp] theorem takeDetection_scrub (e : Entry) (v : Byte) (g : Engine) :
    (s.takeDetection e v g).scrub = s.scrub := by
  simp [State.takeDetection]
@[simp] theorem takeDetection_command (e : Entry) (v : Byte) (g : Engine) :
    (s.takeDetection e v g).command = s.command := by
  simp [State.takeDetection]
@[simp] theorem takeDetection_port0 (e : Entry) (v : Byte) (g : Engine) :
    (s.takeDetection e v g).port0 = s.port0 := by
  simp [State.takeDetection]
@[simp] theorem takeDetection_port1 (e : Entry) (v : Byte) (g : Engine) :
    (s.takeDetection e v g).port1 = s.port1 := by
  simp [State.takeDetection]
@[simp] theorem takeDetection_queue (e : Entry) (v : Byte) (g : Engine) :
    (s.takeDetection e v g).queue = s.queue := by
  simp [State.takeDetection]
@[simp] theorem takeDetection_completions (e : Entry) (v : Byte) (g : Engine) :
    (s.takeDetection e v g).completions = s.completions := by
  simp [State.takeDetection]
@[simp] theorem takeDetection_staging (e : Entry) (v : Byte) (g : Engine) :
    (s.takeDetection e v g).staging = s.staging := by
  simp [State.takeDetection]
@[simp] theorem takeDetection_sections (e : Entry) (v : Byte) (g : Engine) :
    (s.takeDetection e v g).sections = s.sections := by
  simp [State.takeDetection]
@[simp] theorem takeDetection_settings (e : Entry) (v : Byte) (g : Engine) :
    (s.takeDetection e v g).settings = s.settings := by
  simp [State.takeDetection]
@[simp] theorem takeDetection_quiet (e : Entry) (v : Byte) (g : Engine) :
    (s.takeDetection e v g).quiet = s.quiet := by
  simp [State.takeDetection]
@[simp] theorem takeDetection_resetnLow (e : Entry) (v : Byte) (g : Engine) :
    (s.takeDetection e v g).resetnLow = s.resetnLow := by
  simp [State.takeDetection]
@[simp] theorem takeDetection_choices (e : Entry) (v : Byte) (g : Engine) :
    (s.takeDetection e v g).choices = s.choices := by
  simp [State.takeDetection]
@[simp] theorem takeDetection_pending (e : Entry) (v : Byte) (g : Engine) :
    (s.takeDetection e v g).pending = s.pending := by
  simp [State.takeDetection]

/-! ### dequeue -/

@[simp] theorem dequeue_image : s.dequeue.image = s.image := by
  unfold State.dequeue; split <;> rfl
@[simp] theorem dequeue_targets : s.dequeue.targets = s.targets := by
  unfold State.dequeue; split <;> rfl
@[simp] theorem dequeue_scrub : s.dequeue.scrub = s.scrub := by
  unfold State.dequeue; split <;> rfl
@[simp] theorem dequeue_command : s.dequeue.command = s.command := by
  unfold State.dequeue; split <;> rfl
@[simp] theorem dequeue_port0 : s.dequeue.port0 = s.port0 := by
  unfold State.dequeue; split <;> rfl
@[simp] theorem dequeue_port1 : s.dequeue.port1 = s.port1 := by
  unfold State.dequeue; split <;> rfl
@[simp] theorem dequeue_completions : s.dequeue.completions = s.completions := by
  unfold State.dequeue; split <;> rfl
@[simp] theorem dequeue_log : s.dequeue.log = s.log := by
  unfold State.dequeue; split <;> rfl
@[simp] theorem dequeue_staging : s.dequeue.staging = s.staging := by
  unfold State.dequeue; split <;> rfl
@[simp] theorem dequeue_settings : s.dequeue.settings = s.settings := by
  unfold State.dequeue; split <;> rfl
@[simp] theorem dequeue_quiet : s.dequeue.quiet = s.quiet := by
  unfold State.dequeue; split <;> rfl
@[simp] theorem dequeue_resetnLow : s.dequeue.resetnLow = s.resetnLow := by
  unfold State.dequeue; split <;> rfl
@[simp] theorem dequeue_choices : s.dequeue.choices = s.choices := by
  unfold State.dequeue; split <;> rfl
@[simp] theorem dequeue_pending : s.dequeue.pending = s.pending := by
  unfold State.dequeue; split <;> rfl

/-! ### What the updates make of the fields they change -/

@[simp] theorem port_setPort (p : PortId) (x : Port) : (s.setPort p x).port p = x := by
  cases p <;> rfl

@[simp] theorem port_setPort_of_ne {p q : PortId} (h : q ≠ p) (x : Port) :
    (s.setPort p x).port q = s.port q := by
  cases p <;> cases q <;> first | rfl | exact absurd rfl h

@[simp] theorem target_setTarget (a : Fin 16) (t : Option Target) :
    (s.setTarget a t).target a = t := by
  simp [State.setTarget, State.target]

@[simp] theorem target_setTarget_of_ne {a b : Fin 16} (h : b ≠ a) (t : Option Target) :
    (s.setTarget a t).target b = s.target b := by
  have h' : a.val ≠ b.val := fun e => h (Fin.ext e.symm)
  simp [State.setTarget, State.target, h']

@[simp] theorem finish_command (r : Completion) : (s.finish r).command = none := rfl

@[simp] theorem finish_completions (r : Completion) :
    (s.finish r).completions = s.completions ++ [r] := rfl

@[simp] theorem setCommand_command (c : Staged) (g : Progress) :
    (s.setCommand c g).command = some { staged := c, progress := g } := rfl

@[simp] theorem logDrift_nextSequence (k : DriftKind) (w : Option Byte) (a : Option Half)
    (e o : Option Byte) : (s.logDrift k w a e o).log.nextSequence = s.log.nextSequence + 1 := rfl

@[simp] theorem startPacing_state : s.startPacing.scrub.state = .pacing := rfl

@[simp] theorem startPacing_current : s.startPacing.scrub.current = none := rfl

@[simp] theorem startPacing_cursor : s.startPacing.scrub.cursor = s.scrub.cursor := rfl

@[simp] theorem startPacing_passCount : s.startPacing.scrub.passCount = s.scrub.passCount := rfl

@[simp] theorem scrubIdle_state (d : Bool) : (s.scrubIdle d).scrub.state = .idle := rfl

@[simp] theorem scrubIdle_done (d : Bool) : (s.scrubIdle d).sections.scrubDone = d := rfl

@[simp] theorem modifyEntry_signature (k : Key) (f : Entry → Entry) :
    (s.modifyEntry k f).image.signature = s.image.signature := rfl

@[simp] theorem modifyEntry_entries (k : Key) (f : Entry → Entry) :
    (s.modifyEntry k f).image.entries = s.image.entries.map (fun e => if e.key = k then f e else e) :=
  rfl

@[simp] theorem changeImage_entries (es : List Entry) : (s.changeImage es).image.entries = es := rfl

@[simp] theorem changeImage_signature (es : List Entry) :
    (s.changeImage es).image.signature = signatureOf es := rfl

/-- The target of an alias follows from the table alone. -/
theorem target_congr {s t : State} (h : t.targets = s.targets) (a : Fin 16) :
    t.target a = s.target a := by
  simp [State.target, h]

/-- The entry of a key follows from the table alone. -/
theorem entry_congr {s t : State} (h : t.image = s.image) (k : Key) : t.entry k = s.entry k := by
  simp [State.entry, h]

/-- A port follows from its field alone. -/
theorem port_congr {s t : State} (h0 : t.port0 = s.port0) (h1 : t.port1 = s.port1) (p : PortId) :
    t.port p = s.port p := by
  cases p <;> simp [State.port, h0, h1]

end Machine
end Sys2Proof
end

