-- ==== Sys2Proof/Laws/Kept.lean ====
section
/-! SUPPORT. What every outcome, answer, grant and settling keeps (`State.kept`), said once for each
operation of the engines and the ports. -/

namespace Sys2Proof
namespace Machine

variable (s : State)

/-! ### The shared operations -/

@[simp] theorem setPort_kept (p : PortId) (x : Port) : (s.setPort p x).kept = s.kept := by
  cases p <;> rfl
@[simp] theorem logDrift_kept (k : DriftKind) (w : Option Byte) (a : Option Half)
    (e o : Option Byte) : (s.logDrift k w a e o).kept = s.kept := rfl
@[simp] theorem logEntry_kept (k : DriftKind) (e : Entry) (o : Byte) :
    (s.logEntry k e o).kept = s.kept := rfl
@[simp] theorem logAlias_kept (k : DriftKind) (a : Fin 16) : (s.logAlias k a).kept = s.kept := rfl
@[simp] theorem logPort_kept (k : DriftKind) (p : PortId) : (s.logPort k p).kept = s.kept := rfl
@[simp] theorem setTarget_kept (a : Fin 16) (t : Option Target) : (s.setTarget a t).kept = s.kept :=
  rfl
@[simp] theorem modifyTarget_kept (a : Fin 16) (f : Target → Target) :
    (s.modifyTarget a f).kept = s.kept := by
  unfold State.modifyTarget; split <;> simp
@[simp] theorem claimTarget_kept (a : Fin 16) (eng : Engine) : (s.claimTarget a eng).kept = s.kept := by
  simp [State.claimTarget]
@[simp] theorem finish_kept (r : Completion) : (s.finish r).kept = s.kept := rfl
@[simp] theorem setCommand_kept (c : Staged) (g : Progress) : (s.setCommand c g).kept = s.kept := rfl
@[simp] theorem startPacing_kept : s.startPacing.kept = s.kept := rfl
@[simp] theorem scrubIdle_kept (done : Bool) : (s.scrubIdle done).kept = s.kept := rfl
@[simp] theorem setRepair_kept (r : Repair) : (s.setRepair r).kept = s.kept := rfl
@[simp] theorem hold_kept : s.hold.kept = s.kept := rfl
@[simp] theorem choices_kept (n : Nat) : ({ s with choices := n } : State).kept = s.kept := rfl
@[simp] theorem command_kept (c : Option Command) : ({ s with command := c } : State).kept = s.kept :=
  rfl
@[simp] theorem markStale_kept (k : Key) : (s.markStale k).kept = s.kept := by
  unfold State.markStale; split <;> rfl
theorem scrub_kept (e : ScrubEngine) (h : e.passCount = s.scrub.passCount) :
    ({ s with scrub := e } : State).kept = s.kept := by
  simp [State.kept, h]

/-- A change of an entry that leaves the six bytes of the signature alone keeps the rest too. -/
theorem modifyEntry_kept (k : Key) (f : Entry → Entry) (h : ∀ e, entryBytes (f e) = entryBytes e) :
    (s.modifyEntry k f).kept = s.kept := by
  have : (s.modifyEntry k f).image.entries.map entryBytes = s.image.entries.map entryBytes := by
    simp only [State.modifyEntry, List.map_map]
    refine List.map_congr_left fun e _ => ?_
    simp only [Function.comp]
    split
    · exact h e
    · rfl
  simp only [State.kept, this]
  rfl

@[simp] theorem countFailure_kept (a : Fin 16) (t : Target) : (s.countFailure a t).kept = s.kept := by
  unfold State.countFailure; dsimp only; split <;> simp
@[simp] theorem report_kept (a : Fin 16) (p : PortId) (b : BitVec 7) (o : BusOutcome) :
    (s.report a p b o).kept = s.kept := by
  unfold State.report; split
  · rfl
  · split
    · split <;> simp
    · rfl
@[simp] theorem reportUngranted_kept (a : Fin 16) (p : PortId) (o : BusOutcome) :
    (s.reportUngranted a p o).kept = s.kept := by
  unfold State.reportUngranted; split <;> simp

@[simp] theorem takeCompare_kept (e : Entry) (v : Byte) : (s.takeCompare e v).kept = s.kept := by
  unfold State.takeCompare; dsimp only
  split <;> (try split) <;> first
    | rfl
    | exact modifyEntry_kept _ _ _ fun _ => rfl
    | (rw [logEntry_kept]; exact modifyEntry_kept _ _ _ fun _ => rfl)
@[simp] theorem takeRepairVerify_kept (e : Entry) (v : Byte) :
    (s.takeRepairVerify e v).kept = s.kept := by
  unfold State.takeRepairVerify; dsimp only
  split <;> (try split) <;> (try split) <;> first
    | rfl
    | exact modifyEntry_kept _ _ _ fun _ => rfl
    | (rw [logEntry_kept]; exact modifyEntry_kept _ _ _ fun _ => rfl)
@[simp] theorem takeApplyVerify_kept (e : Entry) (v : Byte) :
    (s.takeApplyVerify e v).kept = s.kept := by
  unfold State.takeApplyVerify; dsimp only
  split <;> (try split) <;> first
    | rfl
    | exact modifyEntry_kept _ _ _ fun _ => rfl
    | (rw [logEntry_kept]; exact modifyEntry_kept _ _ _ fun _ => rfl)
@[simp] theorem applyFailed_kept (k : Key) : (s.applyFailed k).kept = s.kept :=
  modifyEntry_kept s k _ fun e => by split <;> rfl
@[simp] theorem repairingDrifted_kept (k : Key) : (s.repairingDrifted k).kept = s.kept :=
  modifyEntry_kept s k _ fun e => by split <;> rfl
@[simp] theorem restoreWrote_kept (k : Key) : (s.restoreWrote k).kept = s.kept :=
  modifyEntry_kept s k _ fun e => by split <;> rfl
@[simp] theorem takeDetection_kept (e : Entry) (v : Byte) (eng : Engine) :
    (s.takeDetection e v eng).kept = s.kept := by
  rw [State.takeDetection, logEntry_kept, claimTarget_kept]
  exact modifyEntry_kept _ _ _ fun _ => rfl

/-! ### Restore -/

@[simp] theorem setRestore_kept (eng : Engine) (p : RestoreProgress) :
    (s.setRestore eng p).kept = s.kept := by
  unfold State.setRestore; split
  · rfl
  · split <;> simp
@[simp] theorem endScrubRestore_kept (a : Fin 16) : (s.endScrubRestore a).kept = s.kept := by
  simp [State.endScrubRestore, scrub_kept]
@[simp] theorem endExecutorRestore_kept (p : RestoreProgress) (b : Bool) :
    (s.endExecutorRestore p b).kept = s.kept := by
  unfold State.endExecutorRestore; split <;> simp
@[simp] theorem endRestore_kept (eng : Engine) (p : RestoreProgress) (b : Bool) :
    (s.endRestore eng p b).kept = s.kept := by
  unfold State.endRestore; split <;> simp
@[simp] theorem completeRestore_kept (eng : Engine) (p : RestoreProgress) :
    (s.completeRestore eng p).kept = s.kept := by simp [State.completeRestore]
@[simp] theorem abandonRestore_kept (eng : Engine) (p : RestoreProgress) :
    (s.abandonRestore eng p).kept = s.kept := by simp [State.abandonRestore]
@[simp] theorem beginRestoreStep_kept (eng : Engine) (p : RestoreProgress) (ph : RestorePhase)
    (e : Entry) : (s.beginRestoreStep eng p ph e).1.kept = s.kept := by simp [State.beginRestoreStep]
@[simp] theorem restoreMarkerPhase_kept (eng : Engine) (p : RestoreProgress) :
    (s.restoreMarkerPhase eng p).1.kept = s.kept := by
  unfold State.restoreMarkerPhase; dsimp only; split <;> simp
@[simp] theorem restoreNext_kept (eng : Engine) (p : RestoreProgress) :
    (s.restoreNext eng p).1.kept = s.kept := by
  unfold State.restoreNext; split <;> simp
@[simp] theorem restoreGoOn_kept (eng : Engine) (p : RestoreProgress) :
    (s.restoreGoOn eng p).1.kept = s.kept := by
  unfold State.restoreGoOn; split
  · simp
  · split <;> simp
@[simp] theorem endRestoreStep_kept (eng : Engine) (p : RestoreProgress) (k : Key) (o : BusOutcome) :
    (s.endRestoreStep eng p k o).1.kept = s.kept := by
  cases eng <;> simp [State.endRestoreStep]
@[simp] theorem restoreOutcome_kept (eng : Engine) (p : RestoreProgress) (o : BusOutcome) :
    (s.restoreOutcome eng p o).1.kept = s.kept := by
  unfold State.restoreOutcome; split
  · rfl
  · split
    · split <;> simp
    · simp
@[simp] theorem skipRestoreStep_kept (p : RestoreProgress) (k : Key) :
    (s.skipRestoreStep p k).1.kept = s.kept := by simp [State.skipRestoreStep]

/-! ### Repair -/

@[simp] theorem abandonRepair_kept : s.abandonRepair.kept = s.kept := by
  unfold State.abandonRepair; split <;> simp
@[simp] theorem beginRepair_kept (e : Entry) (v : Option Byte) :
    (s.beginRepair e v).1.kept = s.kept := by
  dsimp only [State.beginRepair]
  rw [setRepair_kept]
  exact modifyEntry_kept _ _ _ fun _ => rfl
@[simp] theorem repairStepOutcome_kept (k : Key) (r : Repair) (o : BusOutcome) :
    (s.repairStepOutcome k r o).1.kept = s.kept := by
  unfold State.repairStepOutcome; split <;> (try split) <;> simp
@[simp] theorem afterRepairVerify_kept (k : Key) (v : Byte) :
    (s.afterRepairVerify k v).1.kept = s.kept := by
  unfold State.afterRepairVerify; split
  · split
    · split <;> simp
    · simp
  · simp
@[simp] theorem repairVerifyOutcome_kept (k : Key) (o : BusOutcome) :
    (s.repairVerifyOutcome k o).1.kept = s.kept := by
  unfold State.repairVerifyOutcome; split
  · split
    · simp
    · split <;> simp
  · simp
@[simp] theorem repairOutcome_kept (k : Key) (r : Repair) (o : BusOutcome) :
    (s.repairOutcome k r o).1.kept = s.kept := by
  unfold State.repairOutcome; split <;> simp

/-! ### The scrub read -/

@[simp] theorem afterCompare_kept (k : Key) (v : Byte) : (s.afterCompare k v).1.kept = s.kept := by
  unfold State.afterCompare; split
  · split <;> (try split) <;> (try split) <;> simp
  · simp
@[simp] theorem scrubDetection_kept (e : Entry) (v : Byte) :
    (s.scrubDetection e v).1.kept = s.kept := by
  unfold State.scrubDetection; split
  · dsimp only
    rw [restoreGoOn_kept]
    exact (scrub_kept (s.takeDetection e v .scrub) _ rfl).trans (takeDetection_kept s e v .scrub)
  · simp
@[simp] theorem scrubReadOutcome_kept (k : Key) (o : BusOutcome) :
    (s.scrubReadOutcome k o).1.kept = s.kept := by
  unfold State.scrubReadOutcome; split
  · split
    · simp
    · split
      · split <;> simp
      · simp
  · simp
@[simp] theorem scrubOutcome_kept (o : BusOutcome) : (s.scrubOutcome o).1.kept = s.kept := by
  unfold State.scrubOutcome; split <;> simp

/-! ### The executor -/

@[simp] theorem probeOutcome_kept (c : Staged) (o : BusOutcome) :
    (s.probeOutcome c o).kept = s.kept := by
  unfold State.probeOutcome; dsimp only; split <;> simp
@[simp] theorem directOutcome_kept (c : Staged) (o : BusOutcome) :
    (s.directOutcome c o).kept = s.kept := by
  unfold State.directOutcome; split <;> simp
@[simp] theorem applyEndsFailed_kept (c : Staged) (x : Status) :
    (s.applyEndsFailed c x).kept = s.kept := by simp [State.applyEndsFailed]
@[simp] theorem applyEndsVerified_kept (c : Staged) (v : Byte) :
    (s.applyEndsVerified c v).kept = s.kept := by
  unfold State.applyEndsVerified; split <;> simp
@[simp] theorem applyOutcome_kept (c : Staged) (x : WriteStep) (b : Option Byte) (o : BusOutcome) :
    (s.applyOutcome c x b o).1.kept = s.kept := by
  unfold State.applyOutcome; dsimp only; split <;> (try split) <;> simp
@[simp] theorem endVerify_kept (c : Staged) (v : VerifyProgress) (x : Status) :
    (s.endVerify c v x).kept = s.kept := by simp [State.endVerify]
@[simp] theorem verifyGoOn_kept (c : Staged) (v : VerifyProgress) :
    (s.verifyGoOn c v).1.kept = s.kept := by
  unfold State.verifyGoOn; dsimp only
  split <;> (try split) <;> (try split) <;> simp
@[simp] theorem verifyDetection_kept (c : Staged) (v : VerifyProgress) (e : Entry) (x : Byte) :
    (s.verifyDetection c v e x).1.kept = s.kept := by
  unfold State.verifyDetection; split <;> (try split) <;> simp
@[simp] theorem verifyOutcome_kept (c : Staged) (v : VerifyProgress) (o : BusOutcome) :
    (s.verifyOutcome c v o).1.kept = s.kept := by
  unfold State.verifyOutcome; split
  · rfl
  · split <;> (try split) <;> simp
@[simp] theorem endPortReset_kept (b : Bool) : (s.endPortReset b).kept = s.kept := by
  unfold State.endPortReset; split <;> (try split) <;> simp
@[simp] theorem executorOutcome_kept (o : BusOutcome) : (s.executorOutcome o).1.kept = s.kept := by
  unfold State.executorOutcome; split
  · rfl
  · split <;> simp

/-! ### The ports -/

/-- What an engine answers to a grant keeps it too. -/
def GrantAnswer.keeps : GrantAnswer → State → Prop
  | .formed _, _ => True
  | .withdrawn r, s => r.1.kept = s.kept

theorem formedOr_keeps (f : Option Flight) : (s.formedOr f).keeps s := by
  unfold State.formedOr; split <;> simp [GrantAnswer.keeps]
theorem formScrub_keeps (p : PortId) : (s.formScrub p).keeps s := by
  unfold State.formScrub; split
  · unfold State.formScrubRead; split
    · simp [GrantAnswer.keeps]
    · exact formedOr_keeps s _
  · unfold State.formRepair; split
    · simp [GrantAnswer.keeps]
    · split
      · exact formedOr_keeps s _
      · simp [GrantAnswer.keeps]
  · unfold State.formRepair; split
    · simp [GrantAnswer.keeps]
    · split
      · exact formedOr_keeps s _
      · simp [GrantAnswer.keeps]
  · unfold State.formScrubRestore; split
    · simp [GrantAnswer.keeps]
    · split
      · simp [GrantAnswer.keeps]
      · split
        · simp [GrantAnswer.keeps]
        · exact formedOr_keeps s _
  · simp [GrantAnswer.keeps]
theorem formExecutor_keeps (p : PortId) : (s.formExecutor p).keeps s := formedOr_keeps s _

@[simp] theorem deliver_kept (p : PortId) (f : Flight) (o : BusOutcome) :
    (s.deliver p f o).1.kept = s.kept := by
  unfold State.deliver; split <;> (try split) <;> simp
@[simp] theorem outcomeOf_kept (p : PortId) (f : Flight) (o : BusOutcome) :
    (s.outcomeOf p f o).1.kept = s.kept := by
  unfold State.outcomeOf; split <;> simp
@[simp] theorem answerDown_kept (p : PortId) (r : Request) : (s.answerDown p r).1.kept = s.kept := by
  unfold State.answerDown; split <;> (try split) <;> (try split) <;> simp
@[simp] theorem startRounds_kept (p : PortId) (o : RecoveryOrigin) :
    (s.startRounds p o).kept = s.kept := by simp [State.startRounds]
@[simp] theorem portIdle_kept (p : PortId) : (s.portIdle p).kept = s.kept := by
  simp [State.portIdle]
@[simp] theorem secondRound_kept (p : PortId) (r : Recovery) : (s.secondRound p r).kept = s.kept := by
  simp [State.secondRound]
@[simp] theorem enqueue_kept (p : PortId) (r : Request) : (s.enqueue p r).kept = s.kept := by
  simp [State.enqueue]
@[simp] theorem launch_kept (p : PortId) (f : Flight) : (s.launch p f).1.kept = s.kept := by
  unfold State.launch; split <;> simp
@[simp] theorem grantScrub_kept (p : PortId) : (s.grantScrub p).1.kept = s.kept := by
  unfold State.grantScrub; dsimp only
  have h := formScrub_keeps (s.setPort p { s.port p with waiting := (s.port p).waiting.erase .scrub }) p
  split
  · rename_i heq; rw [heq] at h; simpa [GrantAnswer.keeps] using h
  · simp
@[simp] theorem grant_kept (p : PortId) : (s.grant p).1.kept = s.kept := by
  unfold State.grant; split
  · rfl
  · simp
  · simp
  · dsimp only
    have h := formExecutor_keeps (s.setPort p ((s.port p).grantExecutor .executor)) p
    split
    · rename_i heq; rw [heq] at h; simpa [GrantAnswer.keeps] using h
    · simp
@[simp] theorem grants_kept (p : PortId) : (s.grants p).1.kept = s.kept := by
  unfold State.grants; dsimp only; split <;> simp
@[simp] theorem arrive_kept (p : PortId) (r : Request) : (s.arrive p r).1.kept = s.kept := by
  unfold State.arrive; split <;> (try split) <;> simp
@[simp] theorem act_kept (p : PortId) : (s.act p).1.kept = s.kept := by
  unfold State.act; split <;> (try split) <;> simp
@[simp] theorem pick_kept (n : Nat) : (s.pick n).2.kept = s.kept := by
  unfold State.pick; split <;> simp

/-! ### Settling -/

@[simp] theorem pick_port (n : Nat) (p : PortId) : (s.pick n).2.port p = s.port p := by
  unfold State.pick; split <;> cases p <;> rfl

/-- What arrivals, acts of ports that can act and choices keep, settling keeps. -/
theorem settle_induction {P : State → Prop} (choices : ∀ s n, P s → P { s with choices := n })
    (arrive : ∀ s p r, P s → P (s.arrive p r).1)
    (act : ∀ s p, P s → (s.port p).canAct = true → P (s.act p).1)
    (n : Nat) (todo : List (PortId × Request)) (s : State) (h : P s) : P (State.settle n todo s) := by
  induction n generalizing todo s with
  | zero => exact h
  | succ n ih =>
    have hp : ∀ m, P (s.pick m).2 := fun m => by
      unfold State.pick; split
      · exact h
      · exact choices s _ h
    unfold State.settle; dsimp only
    split
    · exact h
    · split
      · exact ih _ _ (arrive _ _ _ (hp _))
      · split
        · rename_i heq
          have hmem := List.mem_of_getElem? heq
          simp only [List.mem_filter] at hmem
          exact ih _ _ (act _ _ (hp _) (by simpa using hmem.2))
        · exact hp _

/-- The same for a response with all that follows from it. -/
theorem settled_induction {P : State → Prop} (choices : ∀ s n, P s → P { s with choices := n })
    (arrive : ∀ s p r, P s → P (s.arrive p r).1)
    (act : ∀ s p, P s → (s.port p).canAct = true → P (s.act p).1)
    (r : Reaction) (h : P r.1) : P (settled r) :=
  settle_induction choices arrive act _ _ _ h

@[simp] theorem settle_kept (n : Nat) (todo : List (PortId × Request)) :
    (State.settle n todo s).kept = s.kept :=
  settle_induction (P := fun x => x.kept = s.kept) (fun _ _ h => by simpa using h)
    (fun _ _ _ h => by simpa using h) (fun _ _ h _ => by simpa using h) n todo s rfl
@[simp] theorem settled_kept (r : Reaction) : (settled r).kept = r.1.kept := settle_kept _ _ _

@[simp] theorem endTransaction_kept (p : PortId) (f : Flight) (o : BusOutcome) :
    (s.endTransaction p f o).kept = s.kept := by simp [State.endTransaction]
@[simp] theorem timeOut_kept (p : PortId) (f : Flight) : (s.timeOut p f).kept = s.kept := by
  simp [State.timeOut]
@[simp] theorem roundsReported_kept (r : Recovery) (b : Bool) :
    (s.roundsReported r b).kept = s.kept := by
  unfold State.roundsReported; split <;> simp
@[simp] theorem roundEnds_kept (p : PortId) (b : Bool) : (s.roundEnds p b).kept = s.kept := by
  unfold State.roundEnds; split
  · rfl
  · split
    · unfold State.roundSucceeds; dsimp only; split <;> simp
    · split
      · simp
      · unfold State.roundsFail; dsimp only; split <;> simp

end Machine
end Sys2Proof
end

