-- ==== Sys2Proof/Laws/Settle.lean ====
section
/-! SUPPORT. What an event comes to when the rest of the part is at rest: nothing follows, or one
request arrives at a free port, at a busy one or at a DOWN one. -/

namespace Sys2Proof
namespace Machine

variable (s : State)

/-! ### Ports put back -/

@[simp] theorem setPort_self (p : PortId) : s.setPort p (s.port p) = s := by cases p <;> rfl

@[simp] theorem setPort_setPort (p : PortId) (x y : Port) :
    (s.setPort p x).setPort p y = s.setPort p y := by cases p <;> rfl

theorem canAct_of_waiting_nil {x : Port} (h : x.waiting = []) : x.canAct = false := by
  unfold Port.canAct; split <;> simp [Port.nextAtDown, h]

theorem canAct_of_busy {x : Port} (h : x.state = .busy) : x.canAct = false := by
  simp [Port.canAct, h]

theorem canAct_of_recovering {x : Port} (h : x.state = .recovering) : x.canAct = false := by
  simp [Port.canAct, h]

/-- What a DOWN port handles next waits there, and a PORT_RESET is it only while no rounds run (R97, R98). -/
theorem nextAtDown_some {x : Port} {r : Request} (h : x.nextAtDown = some r) :
    r ∈ x.waiting ∧ (r = .portReset → x.recovery = none) := by
  unfold Port.nextAtDown at h
  refine ⟨List.mem_of_find?_eq_some h, fun e => ?_⟩
  have := List.find?_some h
  subst e
  simpa using this

variable {s}

theorem atRest_port (h : s.atRest = true) (p : PortId) : (s.port p).canAct = false := by
  simp only [State.atRest, Bool.and_eq_true, Bool.not_eq_true'] at h
  cases p
  · exact h.1
  · exact h.2

theorem atRest_of_port (h : ∀ p, (s.port p).canAct = false) : s.atRest = true := by
  simp [State.atRest, h]

/-- Being at rest depends on the ports alone. -/
theorem atRest_congr {t : State} (h0 : t.port0 = s.port0) (h1 : t.port1 = s.port1) :
    t.atRest = s.atRest := by
  simp [State.atRest, port_congr h0 h1]

theorem portFree_state {p : PortId} (h : s.portFree p = true) : (s.port p).state = .idle := by
  simp only [State.portFree, Bool.and_eq_true, beq_iff_eq] at h; exact h.1

theorem portFree_waiting {p : PortId} (h : s.portFree p = true) : (s.port p).waiting = [] := by
  simp only [State.portFree, Bool.and_eq_true, List.isEmpty_iff] at h; exact h.2

/-! ### Settling step by step -/

/-- With nothing on its way and no port able to act, settling is over. -/
theorem settle_atRest (n : Nat) (h : s.atRest = true) : State.settle n [] s = s := by
  cases n with
  | zero => rfl
  | succ n => simp [State.settle, atRest_port h]

@[simp] theorem settled_atRest (h : s.atRest = true) : settled (s, []) = s := settle_atRest _ h

/-- One request on its way, the ports at rest: it arrives. -/
theorem settle_arrival (n : Nat) (h : s.atRest = true) (p : PortId) (r : Request) :
    State.settle (n + 1) [(p, r)] s = State.settle n (s.arrive p r).2 (s.arrive p r).1 := by
  simp [State.settle, atRest_port h, State.pick]

/-- One port able to act, nothing on its way: it acts. -/
theorem settle_act (n : Nat) (p : PortId) (hp : (s.port p).canAct = true)
    (hq : ∀ q, q ≠ p → (s.port q).canAct = false) :
    State.settle (n + 1) [] s = State.settle n (s.act p).2 (s.act p).1 := by
  have h : ([PortId.p0, PortId.p1].filter fun q => (s.port q).canAct) = [p] := by
    cases p with
    | p0 => simp [hp, hq .p1 (by decide)]
    | p1 => simp [hp, hq .p0 (by decide)]
  simp [State.settle, h, State.pick]

/-- A DOWN port acts: what it handles next leaves the waiting ones and arrives now (R97). -/
theorem act_down {p : PortId} {r : Request} (hd : (s.port p).state = .down)
    (hr : (s.port p).nextAtDown = some r) :
    s.act p =
      (s.setPort p { s.port p with waiting := (s.port p).waiting.erase r }).arrive p r := by
  unfold State.act; simp [hd, hr]

theorem bound_eq (s : State) : s.bound = (8 * s.image.entries.length + 61) + 1 + 1 + 1 := rfl

/-- A request that arrives at a port which is neither DOWN nor free waits. -/
theorem settled_waits {p : PortId} {r : Request} (h : s.atRest = true)
    (hp : (s.port p).state = .busy ∨ (s.port p).state = .recovering) :
    settled (s, [(p, r)]) = s.enqueue p r := by
  have harr : s.arrive p r = (s.enqueue p r, []) := by
    unfold State.arrive
    rcases hp with hp | hp <;> rw [hp]
  unfold settled
  rw [bound_eq, settle_arrival _ h, harr]
  refine settle_atRest _ (atRest_of_port fun q => ?_)
  by_cases e : q = p
  · subst e
    rcases hp with hp | hp
    · exact canAct_of_busy (by simp [State.enqueue, hp])
    · exact canAct_of_recovering (by simp [State.enqueue, hp])
  · simp [State.enqueue, e, atRest_port h]

/-- A grant that leaves the port at work, or with nothing waiting, is the only one. -/
theorem grants_once {p : PortId} (h : ((s.grant p).1.port p).state = .idle →
    ((s.grant p).1.port p).waiting = []) : s.grants p = s.grant p := by
  unfold State.grants
  dsimp only
  split
  · rename_i hi
    have hc : ((s.grant p).1.port p).choose = none := by simp [Port.choose, h hi]
    have hg : (s.grant p).1.grant p = ((s.grant p).1, []) := by
      generalize (s.grant p).1 = t at hc
      unfold State.grant
      rw [hc]
    simp [hg]
  · rfl

/-- The one request that arrives at a free port is granted. -/
theorem settled_free {p : PortId} {r : Request} (h : s.atRest = true) (hp : s.portFree p = true)
    (t : State) (hgrant : (s.enqueue p r).grant p = (t, [])) (ht : t.atRest = true) :
    settled (s, [(p, r)]) = t := by
  have hs := portFree_state hp
  have hw : (t.port p).state = .idle → (t.port p).waiting = [] := fun hi => by
    simpa [Port.canAct, hi] using atRest_port ht p
  have harr : s.arrive p r = (t, []) := by
    have hg : (s.enqueue p r).grants p = (t, []) := by
      rw [grants_once (by rw [hgrant]; exact hw), hgrant]
    unfold State.arrive; rw [hs]; exact hg
  unfold settled
  rw [bound_eq, settle_arrival _ h, harr]
  exact settle_atRest _ ht

theorem setPort_waiting_nil {p : PortId} (h : (s.port p).waiting = []) :
    s.setPort p { s.port p with waiting := [] } = s := by
  rw [← h]; exact setPort_self s p

/-- The part after a transaction has been launched. -/
theorem launched_atRest {p : PortId} (h : s.atRest = true) (x : Port) (hx : x.state = .busy) :
    (s.setPort p x).atRest = true :=
  atRest_of_port fun q => by
    by_cases e : q = p
    · subst e; exact canAct_of_busy (by simp [hx])
    · simp [e, atRest_port h]

/-- A request of the executor at a free port: the port puts its transaction on the bus. -/
theorem settled_executor_launch {p : PortId} {f : Flight} (h : s.atRest = true)
    (hp : s.portFree p = true) (hf : s.executorFlight p = some f)
    (hq : s.isQuarantined f.aliasNo = false) :
    settled (s, [(p, .executor)]) =
      s.setPort p { s.port p with state := .busy, flight := some f } := by
  refine settled_free h hp _ ?_ (launched_atRest h _ rfl)
  have hw := portFree_waiting hp
  have hfree : (s.enqueue p .executor).setPort p
      (((s.enqueue p .executor).port p).grantExecutor .executor) = s := by
    simpa [State.enqueue, Port.grantExecutor, hw] using setPort_waiting_nil hw
  have hc : ((s.enqueue p .executor).port p).choose = some .executor := by
    simp [State.enqueue, hw, Port.choose]
  simp only [State.grant, hc, hfree, State.formExecutor, State.formedOr, hf, State.launch, hq]
  simp

/-- A request of the Scrub Engine at a free port: the port puts its transaction on the bus. -/
theorem settled_scrub_launch {p : PortId} {f : Flight} (h : s.atRest = true)
    (hp : s.portFree p = true) (hf : s.formScrub p = .formed f)
    (hq : s.isQuarantined f.aliasNo = false) :
    settled (s, [(p, .scrub)]) =
      s.setPort p { s.port p with state := .busy, flight := some f, passedOver := 0 } := by
  refine settled_free h hp _ ?_ (launched_atRest h _ rfl)
  have hw := portFree_waiting hp
  have hfree : (s.enqueue p .scrub).setPort p
      { (s.enqueue p .scrub).port p with
        waiting := ((s.enqueue p .scrub).port p).waiting.erase .scrub } = s := by
    simpa [State.enqueue, hw] using setPort_waiting_nil hw
  have hc : ((s.enqueue p .scrub).port p).choose = some .scrub := by
    simp [State.enqueue, hw, Port.choose]
  have hq' : (s.setPort p { s.port p with passedOver := 0 }).isQuarantined f.aliasNo = false := by
    simpa [State.isQuarantined, State.target] using hq
  simp only [State.grant, hc, State.grantScrub, hfree, hf, State.launch, hq']
  simp

/-- A PORT_RESET at a free port: the rounds begin. -/
theorem settled_portReset_free {p : PortId} (h : s.atRest = true) (hp : s.portFree p = true) :
    settled (s, [(p, .portReset)]) = s.startRounds p .command := by
  have hw := portFree_waiting hp
  have hfree : (s.enqueue p .portReset).setPort p
      (((s.enqueue p .portReset).port p).grantExecutor .portReset) = s := by
    simpa [State.enqueue, Port.grantExecutor, hw] using setPort_waiting_nil hw
  refine settled_free h hp _ ?_ (atRest_of_port fun q => ?_)
  · have hc : ((s.enqueue p .portReset).port p).choose = some .portReset := by
      simp [State.enqueue, hw, Port.choose]
    simp [State.grant, hc, hfree]
  · by_cases e : q = p
    · subst e; exact canAct_of_waiting_nil (by simp [State.startRounds, hw])
    · simp [State.startRounds, e, atRest_port h]

/-- A PORT_RESET at a DOWN port with no round under way: the rounds begin at once. -/
theorem settled_portReset_down {p : PortId} (h : s.atRest = true)
    (hd : (s.port p).state = .down) (hr : (s.port p).recovery = none) :
    settled (s, [(p, .portReset)]) = s.startRounds p .command := by
  have harr : s.arrive p .portReset = (s.startRounds p .command, []) := by
    unfold State.arrive; simp [hd, hr]
  unfold settled
  rw [bound_eq, settle_arrival _ h, harr]
  refine settle_atRest _ (atRest_of_port fun q => ?_)
  by_cases e : q = p
  · subst e
    have hw : (s.port q).waiting = [] := by
      have hc := atRest_port h q
      simp only [Port.canAct, hd, Port.nextAtDown, hr] at hc
      exact List.eq_nil_iff_forall_not_mem.2 (by simpa using hc)
    exact canAct_of_waiting_nil (by simp [State.startRounds, hw])
  · simp [State.startRounds, e, atRest_port h]

/-- A request answered PORT_DOWN at once, when nothing follows from the answer. -/
theorem settled_down {p : PortId} {r : Request} (h : s.atRest = true)
    (hd : (s.port p).state = .down) (hr : r ≠ .portReset) (t : State)
    (ha : s.answerDown p r = (t, [])) (ht : t.atRest = true) : settled (s, [(p, r)]) = t := by
  have harr : s.arrive p r = s.answerDown p r := by
    unfold State.arrive
    cases r <;> simp_all
  unfold settled
  rw [bound_eq, settle_arrival _ h, harr, ha]
  exact settle_atRest _ ht

/-! ### The take -/

theorem readyFor_canTake {c : Staged} (h : s.readyFor c = true) : s.canTake = true := by
  simp only [State.readyFor, State.takeDue, Bool.and_eq_true] at h; exact h.1.1.2

theorem readyFor_head {c : Staged} (h : s.readyFor c = true) : s.queue.head? = some c := by
  simp only [State.readyFor, Bool.and_eq_true, beq_iff_eq] at h; exact h.1.2

theorem readyFor_atRest {c : Staged} (h : s.readyFor c = true) : s.atRest = true := by
  simp only [State.readyFor, Bool.and_eq_true] at h; exact h.2

theorem readyFor_running {c : Staged} (h : s.readyFor c = true) : s.resetnLow = false := by
  simp only [State.readyFor, State.takeDue, Bool.and_eq_true, Bool.not_eq_true'] at h
  exact h.1.1.1

theorem readyFor_noCommand {c : Staged} (h : s.readyFor c = true) : s.command = none := by
  have := readyFor_canTake h
  simp only [State.canTake, Bool.and_eq_true, Option.isNone_iff_eq_none] at this
  exact this.1.1

/-- A due take of the head is carried out. -/
theorem takeHead_ready {c : Staged} (h : s.readyFor c = true) (carry : State → Staged → Reaction) :
    s.takeHead c carry = settled (carry s.dequeue c) := by
  unfold State.takeHead
  rw [if_pos ⟨readyFor_canTake h, readyFor_head h⟩]

/-- While the part runs, a meaning is what the command does. -/
theorem whileRunning_running (h : s.resetnLow = false) (f : State → State) :
    s.whileRunning f = .next (f s) := by
  simp [State.whileRunning, h]

@[simp] theorem dequeue_atRest (s : State) : s.dequeue.atRest = s.atRest :=
  atRest_congr (by simp) (by simp)

/-- The take leaves the part as `afterTake` says. -/
theorem dequeue_eq_afterTake (s : State) : s.dequeue = s.afterTake := by
  unfold State.dequeue State.afterTake
  split
  · rename_i h; simp [h]
  · rename_i h
    have hb : s.sections.issueBusy = false := by simpa using h
    obtain ⟨_, _, _, _, _, _, _, _, _, _, sections, _, _, _, _, _⟩ := s
    obtain ⟨_, _, _, _⟩ := sections
    simp_all

end Machine
end Sys2Proof
end

