-- ==== Sys2Proof/Laws/Ops.lean ====
section
/-! SUPPORT. One lemma for each shared operation that says what it can do: keys and key order, look-up
by key and by the next key, insertion, outcome reports, the log, target records, KIND codes and
validation. -/

namespace Sys2Proof
namespace Machine

variable {s : State}

/-! ### Keys and key order -/

theorem keyRank_injective {j k : Key} (h : keyRank j = keyRank k) : j = k := by
  obtain ⟨a, x⟩ := j
  obtain ⟨b, y⟩ := k
  simp only [keyRank] at h
  have hx := x.isLt
  have hy := y.isLt
  have hb : a.val = b.val := by omega
  have hy : x.toNat = y.toNat := by omega
  rw [Fin.ext hb, BitVec.eq_of_toNat_eq hy]

/-- In key order two entries with one key are the same entry. -/
theorem KeysRise.unique {es : List Entry} (h : KeysRise es) {x y : Entry} (hx : x ∈ es) (hy : y ∈ es)
    (hk : x.key = y.key) : x = y := by
  induction es with
  | nil => simp at hx
  | cons e es ih =>
    obtain ⟨hlt, hr⟩ := List.pairwise_cons.1 h
    rcases List.mem_cons.1 hx with hx | hx <;> rcases List.mem_cons.1 hy with hy | hy
    · rw [hx, hy]
    · have := hlt y hy
      rw [← hx, hk] at this; omega
    · have := hlt x hx
      rw [← hy, hk] at this; omega
    · exact ih hr hx hy

theorem KeysRise.map {es : List Entry} (h : KeysRise es) (f : Entry → Entry)
    (hf : ∀ e, (f e).key = e.key) : KeysRise (es.map f) :=
  List.pairwise_map.2 (h.imp fun hlt => by rwa [hf, hf])

theorem KeysRise.filter {es : List Entry} (h : KeysRise es) (p : Entry → Bool) :
    KeysRise (es.filter p) := List.Pairwise.filter p h

@[simp] theorem mem_insertEntry {e x : Entry} {es : List Entry} :
    x ∈ insertEntry e es ↔ x = e ∨ x ∈ es := by
  induction es with
  | nil => simp [insertEntry]
  | cons y ys ih =>
    unfold insertEntry; split
    · simp
    · simp only [List.mem_cons, ih]; tauto

@[simp] theorem length_insertEntry (e : Entry) (es : List Entry) :
    (insertEntry e es).length = es.length + 1 := by
  induction es with
  | nil => rfl
  | cons y ys ih => unfold insertEntry; split <;> simp [ih]

/-- An entry whose key is new takes its place in key order. -/
theorem KeysRise.insert {e : Entry} {es : List Entry} (h : KeysRise es)
    (hnew : ∀ x ∈ es, x.key ≠ e.key) : KeysRise (insertEntry e es) := by
  induction es with
  | nil => simp [insertEntry, KeysRise]
  | cons y ys ih =>
    obtain ⟨hlt, hr⟩ := List.pairwise_cons.1 h
    unfold insertEntry; split
    · rename_i he
      refine List.pairwise_cons.2 ⟨fun x hx => ?_, h⟩
      rcases List.mem_cons.1 hx with rfl | hx
      · exact he
      · exact he.trans (hlt x hx)
    · rename_i he
      have hne : keyRank y.key ≠ keyRank e.key := fun hc =>
        hnew y List.mem_cons_self (keyRank_injective hc)
      refine List.pairwise_cons.2 ⟨fun x hx => ?_, ih hr fun x hx => hnew x (List.mem_cons_of_mem _ hx)⟩
      rcases mem_insertEntry.1 hx with rfl | hx
      · omega
      · exact hlt x hx

/-! ### Look-up -/

/-- What a look-up by key finds. -/
theorem entry_some {k : Key} {e : Entry} (h : s.entry k = some e) :
    e ∈ s.image.entries ∧ e.key = k := by
  unfold State.entry at h
  exact ⟨List.mem_of_find?_eq_some h, by simpa using List.find?_some h⟩

/-- What a look-up by key that finds nothing says. -/
theorem entry_none {k : Key} (h : s.entry k = none) : ∀ e ∈ s.image.entries, e.key ≠ k := by
  unfold State.entry at h
  simpa using h

/-- In key order a look-up finds the entry with the key. -/
theorem entry_of_mem (h : KeysRise s.image.entries) {e : Entry} (he : e ∈ s.image.entries) :
    s.entry e.key = some e := by
  cases hx : s.entry e.key with
  | none => exact absurd rfl (entry_none hx e he)
  | some x => rw [h.unique (entry_some hx).1 he (entry_some hx).2]

/-- What the search for the next entry finds: an entry above the cursor that is wanted. -/
theorem nextEntry_some {cursor : Option Key} {want : Entry → Bool} {e : Entry}
    (h : s.nextEntry cursor want = some e) :
    e ∈ s.image.entries ∧ keyAbove cursor e.key = true ∧ want e = true := by
  unfold State.nextEntry at h
  have := List.find?_some h
  simp only [Bool.and_eq_true] at this
  exact ⟨List.mem_of_find?_eq_some h, this⟩

/-- In key order it is the lowest such entry. -/
theorem nextEntry_lowest (hs : KeysRise s.image.entries) {cursor : Option Key} {want : Entry → Bool}
    {e x : Entry} (h : s.nextEntry cursor want = some e) (hx : x ∈ s.image.entries)
    (hc : keyAbove cursor x.key = true) (hw : want x = true) : keyRank e.key ≤ keyRank x.key := by
  unfold State.nextEntry at h
  generalize s.image.entries = es at hs h hx
  induction es with
  | nil => simp at hx
  | cons y ys ih =>
    obtain ⟨hlt, hr⟩ := List.pairwise_cons.1 hs
    rw [List.find?_cons] at h
    split at h
    · obtain rfl : y = e := by simpa using h
      rcases List.mem_cons.1 hx with rfl | hx
      · exact le_rfl
      · exact (hlt x hx).le
    · rename_i hy
      rcases List.mem_cons.1 hx with rfl | hx
      · simp [hc, hw] at hy
      · exact ih hr h hx

/-- A search that finds nothing leaves no wanted entry above the cursor. -/
theorem nextEntry_none {cursor : Option Key} {want : Entry → Bool}
    (h : s.nextEntry cursor want = none) :
    ∀ e ∈ s.image.entries, keyAbove cursor e.key = true → want e = false := by
  unfold State.nextEntry at h
  intro e he hc
  have := List.find?_eq_none.1 h e he
  simpa [hc] using this

/-! ### The signature -/

/-- The signature depends on the six bytes of each entry alone. -/
theorem signatureOf_congr {es fs : List Entry} (h : es.map entryBytes = fs.map entryBytes) :
    signatureOf es = signatureOf fs := by
  simp [signatureOf, imageBytes, List.flatMap_def, h]

theorem signatureOf_append (es fs : List Entry) :
    signatureOf (es ++ fs) = (imageBytes fs).foldl crcByte (signatureOf es) := by
  simp [signatureOf, imageBytes]

/-! ### The log -/

/-- The log's list after a creation: with room the new record stands at the tail, otherwise the list
is as it was. -/
theorem logDrift_records (k : DriftKind) (w : Option Byte) (a : Option Half) (e o : Option Byte) :
    (s.logDrift k w a e o).log.records =
      if s.log.records.length < Config.logCapacity then
        s.log.records ++
          [{ sequence := s.log.nextSequence, kind := k, who := w, addr := a, expected := e,
             observed := o, pass := s.scrub.passCount }]
      else s.log.records := rfl

/-! ### Targets -/

/-- A change of a target record reaches that record and no other. -/
theorem modifyTarget_target (a b : Fin 16) (f : Target → Target) :
    (s.modifyTarget a f).target b = if b = a then (s.target b).map f else s.target b := by
  unfold State.modifyTarget
  by_cases hb : b = a
  · subst hb; rw [if_pos rfl]
    split <;> simp_all
  · rw [if_neg hb]
    split
    · rw [target_setTarget_of_ne _ hb]
    · rfl

/-- A counted failure: the count of that record, its state perhaps, and nothing of another. -/
theorem countFailure_target (a b : Fin 16) (t : Target) :
    (s.countFailure a t).target b =
      if b = a then
        some (if t.state != .quarantined &&
            s.settings.failThreshold.toNat ≤ (failedOnce t).failures then
          { failedOnce t with state := .quarantined } else failedOnce t)
      else s.target b := by
  unfold State.countFailure
  dsimp only
  by_cases hb : b = a
  · subst hb; rw [if_pos rfl]
    split <;> simp_all [State.logAlias, State.logDrift, State.setTarget, State.target]
  · rw [if_neg hb]
    have hv : a.val ≠ b.val := fun e => hb (Fin.ext e.symm)
    split <;> simp [State.logAlias, State.logDrift, State.setTarget, State.target, hv]

/-- A report that the table does not count leaves the part as it is. -/
theorem report_uncounted {a : Fin 16} {p : PortId} {b : BitVec 7} {o : BusOutcome}
    (h : ∀ t, s.target a = some t → ¬(t.port = p ∧ t.busAddr = b)) : s.report a p b o = s := by
  unfold State.report
  split
  · rfl
  · rename_i t ht
    rw [if_neg (h t ht)]

/-! ### KIND codes -/

@[simp] theorem kindOf_kindCode (k : CommandKind) : kindOf (kindCode k) = some k := by
  cases k <;> decide

theorem kindCode_of_kindOf {b : Byte} {k : CommandKind} (h : kindOf b = some k) : kindCode k = b := by
  unfold kindOf at h
  simpa using List.find?_some h

/-! ### Validation -/

/-- A command passes steps 2 to 5 exactly when each of them holds. -/
theorem refusal_none_iff {k : CommandKind} {b : CmdBytes} :
    s.refusal k b = none ↔
      fieldsInRange k b = true ∧ s.attachedOk k (slotOf b) = true ∧
        s.quarantineOk k (slotOf b) = true ∧ s.restorerOk k (slotOf b) = true := by
  unfold State.refusal
  split <;> (try split) <;> (try split) <;> (try split) <;> simp_all

theorem validated_passes {k : CommandKind} {c : Staged} (h : s.refusal k c.body = none)
    (work : Reaction) : s.validated k c work = work := by
  unfold State.validated; rw [h]

theorem validated_refused {k : CommandKind} {c : Staged} {x : Status}
    (h : s.refusal k c.body = some x) (work : Reaction) : s.validated k c work = s.refuse c x := by
  unfold State.validated; rw [h]

/-- Validation reads the Target Table alone. -/
theorem refusal_congr {t : State} (h : t.targets = s.targets) (k : CommandKind) (b : CmdBytes) :
    t.refusal k b = s.refusal k b := by
  simp [State.refusal, State.attachedOk, State.quarantineOk, State.restorerOk, State.isQuarantined,
    target_congr h]

end Machine
end Sys2Proof
end

