-- ==== Sys2Proof/Tests/Slice0.lean ====
section
/-! SUPPORT. Tests of one step each, their expected results taken from the tables and worked
sequences of spec/, and for every statement with hypotheses a named theorem that a concrete state and
operands meet them together. -/

namespace Sys2Proof
namespace Tests

open Machine

/-! ### A small board: the clock generator of the worked sequences (chapters 2 and 7) -/

/-- The clock generator at port 1, bus address 0x68, 8-bit register addressing. -/
def clock : Target :=
  { port := .p1, busAddr := 0x68, width := .bits8, state := .online, failures := 0, marker := none
    restorer := none }

/-- The key (1, 0x14). -/
def key : Key := { aliasNo := 1, addr := 0x14 }

/-- The entry (1, 0x14): expected 0x0C, mask 0x1F, halt no, last observed 0x0C. -/
def divider (cls : EntryClass) (st : EntryState) : Entry :=
  { key := key, expected := 0x0C, mask := 0x1F, cls := cls, halt := false, resetValue := none
    state := st, attempts := 0, lastObserved := some 0x0C, drifts := 0 }

/-- The part right after reset with the clock generator attached and some entries defined. -/
def board (es : List Entry) : State :=
  { State.reset.setTarget 1 (some clock) with
    image := { Image.reset with entries := es, signature := signatureOf es } }

/-- The part with the clock generator's record changed. -/
def marked (s : State) (t : TargetState) (who : Option Engine) : State :=
  s.setTarget 1 (some { clock with state := t, restorer := who })

/-- The part with this record at the head of the Command Queue. -/
def due (s : State) (c : Staged) : State := { s with queue := [c] }

/-- The staged bytes beside KIND, register address 0x14. -/
def bytes (aliasNo value mask option : Byte) : CmdBytes :=
  { tag := 0x77, aliasNo := aliasNo, raddrH := 0, raddrL := 0x14, value := value, mask := mask
    option := option, rstval := 0 }

/-- The Scrub Engine in a state, at the entry (1, 0x14). -/
def engine (st : ScrubState) : ScrubEngine :=
  { ScrubEngine.reset with state := st, cursor := some key, current := some key }

/-- The part with the Scrub Engine in a state. -/
def scrubbing (s : State) (e : ScrubEngine) : State := { s with scrub := e }

/-- A transaction of an engine for alias 1. -/
def flight (who : Engine) (f : Form) : Flight :=
  { requester := who, form := f, aliasNo := 1, busAddr := 0x68, timing := ⟨0, 8⟩, phase := .started
    discarded := false }

/-- Port 1 BUSY with a transaction. -/
def busy (s : State) (f : Flight) : State :=
  { s with port1 := { s.port1 with state := .busy, flight := some f } }

/-- Port 1 in a recovery round. -/
def round (s : State) (st : PortState) (r : Recovery) : State :=
  { s with port1 := { s.port1 with state := st, recovery := some r } }

/-- The recovery progress of a round. -/
def progress (n : Round) (o : RecoveryOrigin) : Recovery :=
  { round := n, origin := o, timing := ⟨0, 8⟩, discarded := false }

/-- The part while the executor carries out a command of a kind. -/
def carrying (s : State) (k : CommandKind) (b : CmdBytes) (g : Progress) : State :=
  s.working (stagedOf k b) g

/-- What a step from a state leaves of it. -/
def after (i : Instr) (s : State) : State :=
  match step { s with pending := [i] } with
  | .next t => t
  | _ => s

/-- The board with the entry (1, 0x14), HOLD and CLEAN. -/
def holdBoard : State := board [divider .hold .clean]

/-! ### Decoding and well-formedness -/

/-- R184: the table of flag command bytes. -/
theorem test_flag_bytes :
    [0x10, 0x21, 0x32, 0x13, 0x70, 0x7F].map (decodeWindowWrite 0x0C) =
      [.issueStart, .resultClear, .scrubPulse, .alertStart, .interfaceReset 0,
       .interfaceReset 0xF] := by decide

/-- R180: offset 0x04 is RADDR_L, 0x0D is IDIS, 0x09 is unassigned and 0x0F is read-only. -/
theorem test_window_writes :
    decodeWindowWrite 0x04 0x5A = .stagingWrite .raddrL 0x5A ∧
      decodeWindowWrite 0x0D 0x0B = .idisWrite 0x0B ∧
      decodeWindowWrite 0x09 0x01 = .windowWriteIgnored 0x09 0x01 ∧
      decodeWindowWrite 0x0F 0x01 = .windowWriteIgnored 0x0F 0x01 := by decide

/-- Each check of well-formedness refuses an ill-formed term: 0x10 is START ISSUE, 0x08 is RSTVAL,
and 0x11 is ATTACH. -/
theorem test_wellFormed_refuses :
    Instr.wellFormed (.flagcmdIgnored 0x10) = false ∧
      Instr.wellFormed (.windowWriteIgnored 0x08 0) = false ∧
      Instr.wellFormed (.unknownKind 0x11 (bytes 0 0 0 0)) = false := by decide

/-- And lets a well-formed one pass: functions 0 and 4, offset 0x0F, KIND 0x25. -/
theorem test_wellFormed_admits :
    Instr.wellFormed (.flagcmdIgnored 0x00) = true ∧ Instr.wellFormed (.flagcmdIgnored 0x40) = true ∧
      Instr.wellFormed (.windowWriteIgnored 0x0F 0) = true ∧
      Instr.wellFormed (.unknownKind 0x25 (bytes 0 0 0 0)) = true := by decide

/-! ### One step -/

/-- R166, R180: after hardware reset IDIS reads 0x0F, IDENT 0x41, SIG 0xFFFF and FAULTSUM 0. -/
theorem test_reset_window :
    [0x0C, 0x0D, 0x0E, 0x0F, 0x36, 0x37, 0x3A, 0x3F].map State.reset.windowByte =
      [0x00, 0x0F, 0x00, 0x41, 0xFF, 0xFF, 0x00, 0x00] := by decide

/-- R168: a START ISSUE accepts the staging bytes: CQ_LEVEL 1, ISSUE.Done 1. -/
theorem test_issueStart :
    (after .issueStart State.reset).windowByte 0x30 = 1 ∧
      (after .issueStart State.reset).windowByte 0x0C = 0x01 := by decide

/-- R136: SET of SCRUB_INTERVAL (code 2) to 100 reports the value it had, 10. -/
theorem test_set :
    let t := after .commandTake (due State.reset (stagedOf .set (bytes 2 100 0 0)))
    t.settings.scrubInterval = 100 ∧ t.windowByte 0x12 = 0x00 ∧ t.windowByte 0x16 = 10 ∧
      t.windowByte 0x17 = 100 := by decide

/-- R118, R183: an unassigned KIND is refused with UNKNOWN_KIND, 0x02. -/
theorem test_unknownKind :
    let t := after (.unknownKind 0x25 (bytes 1 0 0 0)) (due State.reset ⟨0x25, bytes 1 0 0 0⟩)
    t.windowByte 0x12 = 0x02 ∧ t.windowByte 0x11 = 0x25 ∧ t.windowByte 0x30 = 0 := by decide

/-- R123, R186: ATTACH puts a PROBE on port 1, whose DONE fills the slot. -/
theorem test_attach :
    let b := bytes 1 0x68 0 0x11
    let t := after .commandTake (due State.reset (stagedOf .attach b))
    t.windowByte 0x3E = 0x10 ∧ t.target 1 = none ∧
      (after (.transactionEnd .p1 none 0) t).target 1 = some clock := by decide

/-- Chapter 7, order A, step 1: the UPDATE of (1, 0x14) leaves it PENDING with mask 0x1F and no last
observed. -/
theorem test_update :
    let t := after .commandTake (due holdBoard (stagedOf .update (bytes 1 0x0E 0 0)))
    (t.entry key).map (fun e => (e.expected, e.mask, e.state, e.lastObserved)) =
      some (0x0E, 0x1F, .pending, none) := by decide

/-- Chapter 7, order A, step 3: the base read returns 0x6C, and the write carries 0x6E. -/
theorem test_update_write :
    let b := bytes 1 0x0E 0 0
    let t := after .commandTake (due holdBoard (stagedOf .update b))
    ((after (.transactionEnd .p1 none 0x6C) t).port1.flight).map (·.form) =
      some (.write 0x14 .bits8 0x6E) := by decide

/-- Chapter 2: the scrub read returns 0x63; the entry goes to REPAIRING through DRIFTED, and the repair
write carries 0x6C. -/
theorem test_repair_write :
    let s := busy (scrubbing holdBoard (engine .readWait)) (flight .scrub (.read 0x14 .bits8))
    let t := after (.transactionEnd .p1 none 0x63) s
    (t.entry key).map (fun e => (e.state, e.lastObserved, e.drifts)) =
      some (.repairing, some 0x03, 1) ∧
    t.port1.flight.map (·.form) = some (.write 0x14 .bits8 0x6C) ∧ t.windowByte 0x33 = 3 := by decide

/-- R88: the pulses of the five shapes of a transaction. -/
theorem test_pulses :
    [Form.probe, .read 0 .bits8, .read 0 .bits16, .write 0 .bits8 0, .write 0 .bits16 0].map
      pulseCount = [9, 36, 45, 27, 36] := by decide

/-- Chapter 1: the merged write of 0x0C under 0x1F over the base 0xE3 is 0xEC. -/
theorem test_merged_write : (divider .hold .clean).writeValue (some 0xE3) = 0xEC := by decide

/-- R95, R96: a failed second round takes port 1 DOWN: FAULTSUM bit 2. -/
theorem test_port_down :
    (after (.recoveryRoundEnd .p1 true false)
      (round State.reset .recovering (progress .second .timeout))).windowByte 0x0E = 0x04 := by decide

/-- R176, R177: a target that reaches FAIL_THRESHOLD, 4, is QUARANTINED and asserts FAULTn. -/
theorem test_quarantine :
    let s := State.reset.setTarget 1 (some { clock with failures := 3 })
    (s.report 1 .p1 0x68 .noResponse).windowByte 0x3F = 1 ∧
      (s.report 1 .p1 0x68 .noResponse).faultAsserted = true := by decide

/-- R97, R98: a scrub read that waited behind a PORT_RESET when port 1 goes DOWN is answered at once, and
the engine paces on while the rounds of the PORT_RESET run. -/
theorem test_down_answers_scrub :
    let s := carrying (scrubbing holdBoard (engine .readWait)) .portReset (bytes 0 1 0 0) .portReset
    let t := after (.recoveryStretchTimeout .p1) { s with port1 := { Port.reset with
      state := .recovering, waiting := [.portReset, .scrub]
      recovery := some (progress .second .timeout) } }
    t.port1.waiting = [] ∧ t.port1.recovery.isSome = true ∧ t.windowByte 0x33 = 1 := by decide

/-- R88: the target address of a READ goes out as 1101000 with direction 1, most significant bit first, and
the port acknowledges no data byte. -/
theorem test_read_bits :
    bitsOfByte (sentValue 0x68 (.read 0x14 .bits8) .readAddress) =
      [true, true, false, true, false, false, false, true] ∧
      BusAction.received.activity.drop 40 = [.releaseSda, .releaseScl, .awaitScl, .pullScl] := by
  decide

/-- R95: with SDA released at the third pulse, the round makes three pulses. -/
theorem test_recovery_pulses :
    recoveryPulses [false, false, false, true] = 3 ∧ recoveryPulses [true] = 0 := by decide

/-! ### Witnesses: states and operands that meet the hypotheses of each statement -/

/-- The part with a submission waiting at ISSUE. -/
def submitted (s : State) : State := { s with sections := { s.sections with issueBusy := true } }

/-- A command of a kind at the head of the queue, a submission waiting behind it. -/
def ready (s : State) (k : CommandKind) (b : CmdBytes) : State := due (submitted s) (stagedOf k b)

/-- The board with no entries. -/
def bare : State := board []

/-- The entry (1, 0x14), HOLD and CLEAN. -/
def e0 : Entry := divider .hold .clean

/-- The entry (1, 0x14) as a marker with reset value 0, and its board. -/
def m0 : Entry := { divider .marker .clean with resetValue := some 0 }

/-- The clock generator with a marker. -/
def markedClock : Target := { clock with marker := some 0x14 }

/-- The board with the marker entry. -/
def markerBoard : State := (board [m0]).setTarget 1 (some markedClock)

/-- The clock generator quarantined. -/
def quarantined : Target := { clock with state := .quarantined, failures := 4 }

/-- A key below (1, 0x14). -/
def below : Key := { aliasNo := 1, addr := 0x10 }

/-- The Scrub Engine PACING, with the timer running and the cursor below (1, 0x14). -/
def pacing : ScrubEngine :=
  { engine .pacing with cursor := some below, current := none, timer := some 10 }

/-- The board with port 1 DOWN. -/
def down (s : State) : State := { s with port1 := { s.port1 with state := .down } }

/-- A part with the entry HELD. -/
def heldBoard (cls : EntryClass) (mask : Byte) : State :=
  scrubbing (board [{ divider cls .drifted with halt := true, mask := mask }]) (engine .held)

/-- A scrub read on the bus. -/
def readFlight : Flight := flight .scrub (.read 0x14 .bits8)

/-- The part with the scrub read of an entry on the bus. -/
def reading (e : Entry) : State := busy (scrubbing (board [e]) (engine .readWait)) readFlight

/-- A READ command's transaction, and a WRITE command's, on the bus. -/
def directBoard (k : CommandKind) (f : Form) : State :=
  busy (carrying bare k (bytes 1 7 0 0) .direct) (flight .executor f)

/-- The ATTACH of the clock generator with its probe on the bus. -/
def probeBoard : State :=
  busy (carrying State.reset .attach (bytes 1 0x68 0 0x11) .probe) (flight .executor .probe)

/-- The part is at rest, and this transaction is all there is at port 1. -/
def alone (s : State) (f : Flight) : Bool :=
  !s.resetnLow && s.atRest &&
    s.port .p1 == { s.port .p1 with state := .busy, flight := some f, waiting := [] }

/-- One entry is in key order. -/
theorem oneRises (e : Entry) : KeysRise [e] := by simp [KeysRise]

theorem witness_StepRunsFrontCommand :
    ({ State.reset with pending := [.issueStart, .commandTake] } : State).pending =
        .issueStart :: [.commandTake] ∧ State.reset.pending = [] := by decide

theorem witness_WindowWritesAsCommands :
    ([0x00, 0x0F, 0x14, 0x3F, 0x40, 0x6F].map ignoredFlagByte).all (· == true) = true ∧
      decodeFlagCommand ((0 : BitVec 1) ++ (0x10 : BitVec 7)) = .issueStart ∧
      (∀ x, Instr.issueStart ≠ .flagcmdIgnored x) ∧
      [(0x09 : BitVec 6), 0x0B, 0x0E, 0x3F].all (fun o =>
        decide (0x08 < o.toNat) && o != 0x0C && o != 0x0D) = true :=
  ⟨by decide, by decide, nofun, by decide⟩

theorem witness_ResetnLowHoldsThePart :
    ({ bare with resetnLow := true } : State).resetnLow = true ∧
      (∀ cause, Instr.issueStart ≠ .hardwareReset cause) ∧ Instr.issueStart ≠ .resetnRise ∧
      Instr.issueStart ≠ .quietAssert ∧ Instr.issueStart ≠ .quietRelease :=
  ⟨rfl, nofun, nofun, nofun, nofun⟩

theorem witness_InterfaceResetEffects : (reading e0).resetnLow = false := by decide

theorem witness_HostSideCommands :
    bare.resetnLow = false ∧ (submitted bare).resetnLow = false ∧
      (submitted bare).sections.issueBusy = true ∧ bare.sections.issueBusy = false ∧
      bare.queue.length < 16 ∧
      ({ bare with queue := List.replicate 15 stagedZero } : State).queue.length < 16 ∧
      16 ≤ ({ bare with queue := List.replicate 16 stagedZero } : State).queue.length ∧
      StagingByte.kind ≠ .rstval := by decide

/-- A part that shows both records, and one that shows neither: 0x10 and 0x1B, 0x20 and 0x29 are the ends
of the two windows. -/
theorem witness_WindowShowsTheState :
    let r := completionOf (stagedOf .read (bytes 1 0 0 0)) .ok
    let d : DriftRecord :=
      { sequence := 0, kind := .mismatch, who := some 1, addr := some 0x14, expected := some 0x0C
        observed := some 3, pass := 0 }
    let s : State := { bare with completions := [r], log := { records := [d], nextSequence := 1 } }
    s.completions = r :: [] ∧ s.log.records = d :: [] ∧ bare.completions = [] ∧
      bare.log.records = [] ∧ 0x10 ≤ (0x1B : BitVec 6).toNat ∧ (0x1B : BitVec 6).toNat ≤ 0x1B ∧
      0x20 ≤ (0x29 : BitVec 6).toNat ∧ (0x29 : BitVec 6).toNat ≤ 0x29 := by decide

theorem witness_ScrubFlagCommandsByState :
    (bare.resetnLow = false ∧ bare.scrub.state = .idle) ∧
      (scrubbing bare (engine .held)).scrub.state = .held ∧
      (scrubbing bare (engine .quiet)).scrub.state = .quiet ∧
      (reading e0).scrub.state ≠ .idle ∧ (reading e0).scrub.state ≠ .held ∧
      (reading e0).scrub.state ≠ .quiet := by decide

/-- At a START, at an expiry with the cursor at "start", and at a release of QUIET there. -/
theorem witness_SelfCheckStopsThePass :
    let s : State := { bare with image := { bare.image with reference := some 1 } }
    let t := scrubbing s { pacing with cursor := none }
    let u := scrubbing s { engine .quiet with cursor := none }
    (s.resetnLow = false ∧ s.atRest = true ∧ s.scrub.state = .idle ∧ s.quiet = false ∧
      s.image.reference = some 1 ∧ 1 ≠ s.image.signature) ∧
    (t.atRest = true ∧ t.scrub.state = .pacing ∧ t.scrub.timer.isSome = true ∧
      t.scrub.cursor = none ∧ t.scrub.stopRequested = false ∧ t.quiet = false) ∧
    u.atRest = true ∧ u.scrub.state = .quiet ∧ u.scrub.cursor = none := by decide

/-- The Scrub Engine in a state with a cursor, nothing eligible above it: idle, pacing and quiet, with the
cursor at "start" and at the last key. -/
theorem witness_PassEndsWhenNothingIsEligible :
    let s := board [divider .restoreOnly .unseen]
    [s, scrubbing s { pacing with cursor := none }, scrubbing s { engine .quiet with cursor := none },
     scrubbing holdBoard { pacing with cursor := some key }, scrubbing holdBoard (engine .quiet)].all
      (fun t => !t.resetnLow && t.atRest && (t.image.entries.all fun e =>
        !keyAbove t.scrub.cursor e.key || !t.eligible e) && t.image.reference.isNone &&
        ((t.scrub.state == .idle && t.scrub.cursor == none && !t.quiet) || t.scrub.state == .quiet ||
          (t.scrub.state == .pacing && t.scrub.timer.isSome && !t.scrub.stopRequested && !t.quiet))) =
      true := by decide

/-- The self-check passes with no reference present, and with the signature as the reference. -/
theorem witness_selfCheckPasses :
    bare.selfCheckPasses ∧
      State.selfCheckPasses { bare with image := { bare.image with reference := some 0xFFFF } } := by
  refine ⟨?_, ?_⟩ <;> intro ref h
  · exact absurd h (by simp [bare, board, Image.reset])
  · exact Option.some.inj h.symm

/-- At a START, and at an expiry and a release of QUIET with the cursor at "start" and below the entry. -/
theorem witness_SearchTakesTheNextEntry :
    (holdBoard.resetnLow = false ∧ holdBoard.atRest = true ∧
      holdBoard.target e0.key.aliasNo = some clock ∧ holdBoard.portFree clock.port = true ∧
      holdBoard.scrub.state = .idle ∧ holdBoard.quiet = false ∧ holdBoard.image.reference = none ∧
      holdBoard.nextEntry none holdBoard.eligible = some e0) ∧
    [none, some below].all (fun c =>
      let s := scrubbing holdBoard { pacing with cursor := c }
      let t := scrubbing holdBoard { engine .quiet with cursor := c, current := none }
      s.atRest && s.scrub.cursor == c && s.nextEntry c s.eligible == some e0 &&
        s.scrub.state == .pacing && s.scrub.timer.isSome && !s.scrub.stopRequested && !s.quiet &&
        t.atRest && t.nextEntry c t.eligible == some e0 && t.scrub.state == .quiet) = true := by
  decide

theorem witness_StopAndQuietAtTheirMoments :
    let s := scrubbing bare { pacing with stopRequested := true }
    let t : State := { scrubbing bare pacing with quiet := true }
    (s.resetnLow = false ∧ s.atRest = true ∧ s.scrub.state = .pacing ∧ s.scrub.timer.isSome = true ∧
      s.scrub.stopRequested = true) ∧
    (t.resetnLow = false ∧ t.atRest = true ∧ t.scrub.state = .pacing ∧ t.scrub.timer.isSome = true ∧
      t.scrub.stopRequested = false ∧ t.quiet = true) ∧
    ({ bare with quiet := true } : State).scrub.state = .idle ∧ bare.scrub.timer.isNone = true ∧
      bare.scrub.state ≠ .pacing ∧ bare.scrub.state ≠ .quiet := by decide

theorem witness_PulseEndsTheHold :
    let s := heldBoard .hold 0x1F
    let e : Entry := { divider .hold .drifted with halt := true }
    (s.resetnLow = false ∧ s.atRest = true ∧ s.scrub.state = .held ∧
      s.scrub.current.bind s.entry = some e ∧ s.scrub.stale = false ∧ e.cls = .hold ∧
      e.state = .drifted ∧ s.isOnline e.key.aliasNo = true ∧ s.target e.key.aliasNo = some clock ∧
      s.portFree clock.port = true) ∧
    (heldBoard .hold 0xFF).scrub.state = .held ∧ (heldBoard .watch 0x1F).scrub.state = .held ∧
      ((heldBoard .watch 0x1F).scrub.current.bind (heldBoard .watch 0x1F).entry).map (·.cls) =
        some .watch := by decide

theorem witness_TakeMovesTheQueue :
    let s := ready bare .read (bytes 1 0 0 0)
    (s.resetnLow = false ∧ s.canTake = true ∧ s.queue.head? = some (stagedOf .read (bytes 1 0 0 0))) ∧
      (directBoard .read .probe).command.isSome = true ∧ bare.queue = [] ∧
      16 ≤ ({ bare with completions := List.replicate 16 (completionOf stagedZero .ok) } :
        State).completions.length ∧
      (due bare ⟨0x25, bytes 1 0 0 0⟩).queue.head? = some ⟨0x25, bytes 1 0 0 0⟩ := by decide

/-- One for each step: KIND 0x25; ALIAS 16; ALIAS 2, which is FREE; a QUARANTINED target; a restorer
present. -/
theorem witness_ValidationRefusesInOrder :
    (kindOf 0x25 = none ∧
      (due bare ⟨0x25, bytes 1 0 0 0⟩).readyFor { kind := 0x25, body := bytes 1 0 0 0 } = true) ∧
    [(bare, CommandKind.read, bytes 16 0 0 0), (bare, .detach, bytes 2 0 0 0),
     (marked bare .quarantined none, .define, bytes 1 0 1 1),
     (marked bare .restoring (some .scrub), .verify, bytes 1 0 0 0)].map
      (fun x =>
        let s := ready x.1 x.2.1 x.2.2
        (s.readyFor (stagedOf x.2.1 x.2.2), s.refusal x.2.1 x.2.2)) =
      [(true, some .badArgument), (true, some .noTarget), (true, some .quarantined),
       (true, some .busyTarget)] := by decide

/-- One for each check of step 6 that a small state can fail. -/
theorem witness_StepSixRefusesInOrder :
    [(bare, CommandKind.attach, bytes 1 0x68 0 0x11), (bare, .attach, bytes 2 0x68 0 0x11),
     (holdBoard, .detach, bytes 1 0 0 0),
     (marked bare .quarantined (some .scrub), .release, bytes 1 0 0 0),
     (holdBoard, .define, bytes 1 0 1 1), (markerBoard, .define, bytes 1 0 1 4),
     (bare, .define, bytes 1 0 1 4), (bare, .update, bytes 1 0 0 0), (bare, .retire, bytes 1 0 0 0),
     (bare, .queryEntry, bytes 1 0 0 1), (holdBoard, .write, bytes 1 0 0 0)].map
      (fun x =>
        let s := ready x.1 x.2.1 x.2.2
        (s.readyFor (stagedOf x.2.1 x.2.2), s.refusal x.2.1 x.2.2,
          firstFailing (stepSix s x.2.1 x.2.2))) =
      [.inUse, .addressClash, .notEmpty, .busyTarget, .duplicate, .duplicate, .badArgument, .noEntry,
       .noEntry, .noEntry, .imaged].map fun st => (true, none, some st) := by decide

/-- Port 1 free, BUSY, RECOVERING and DOWN. -/
theorem witness_AttachProbes :
    let b := bytes 1 0x77 0 0x11
    let s := ready State.reset .attach b
    (aliasInRange b = true ∧ busAddrInRange b.value = true ∧ optionPort b.option = some .p1 ∧
      optionWidth b.option = some .bits8 ∧ s.portFree .p1 = true) ∧
    [(s, PortState.idle), (busy s readFlight, .busy),
     (round s .recovering (progress .first .timeout), .recovering), (down s, .down)].all (fun x =>
      x.1.readyFor (stagedOf .attach b) && x.1.target (slotOf b) == none &&
        !x.1.addressTaken .p1 (busAddrOf b.value) && (x.1.port .p1).state == x.2) = true := by decide

theorem witness_ProbeEndDecidesTheSlot :
    let b := bytes 1 0x68 0 0x11
    let f : Flight := { flight .executor .probe with phase := .startCheck }
    let s := busy (carrying State.reset .attach b .probe) f
    s.resetnLow = false ∧ s.atRest = true ∧
      s.command = some { staged := stagedOf .attach b, progress := .probe } ∧
      optionPort b.option = some .p1 ∧ optionWidth b.option = some .bits8 ∧
      s.port .p1 = { s.port .p1 with state := .busy, flight := some f, waiting := [] } ∧
      f.requester = .executor ∧ f.form = .probe ∧ f.discarded = false ∧ f.phase = .startCheck := by
  decide

theorem witness_DetachAndRelease :
    let b := bytes 1 0 0 0
    let q := ready (bare.setTarget 1 (some quarantined)) .release b
    (aliasInRange b = true ∧ (ready bare .detach b).target (slotOf b) = some clock ∧
      (ready bare .detach b).readyFor (stagedOf .detach b) = true ∧ clock.restorer = none ∧
      (ready bare .detach b).entriesOf (slotOf b) = []) ∧
    (q.target (slotOf b) = some quarantined ∧ q.readyFor (stagedOf .release b) = true ∧
      quarantined.state = .quarantined ∧ quarantined.restorer = none ∧
      q.repairing (slotOf b) = false) ∧
    (ready bare .release b).readyFor (stagedOf .release b) = true ∧
      clock.state ≠ .quarantined := by decide

/-- A MARKER without APPLY; a RESTORE_ONLY entry with APPLY and mask 0xFF at a free port, a BUSY one and a
RECOVERING one. -/
theorem witness_DefineInserts :
    let b := bytes 1 0x07 0xFE 0x14
    let c := bytes 1 0x07 0xFF 0x23
    let s := ready bare .define b
    let t := ready bare .define c
    (s.readyFor (stagedOf .define b) = true ∧ s.refusal .define b = none ∧
      firstFailing (stepSix s .define b) = none ∧ s.target (slotOf b) = some clock ∧
      optionClass b.option = some .marker ∧ b.option.getLsbD 5 = false) ∧
    (optionClass c.option = some .restoreOnly ∧ c.option.getLsbD 5 = true ∧
      t.portFree clock.port = true) ∧
    [(t, PortState.idle), (busy t readFlight, .busy),
     (round t .recovering (progress .first .timeout), .recovering)].all (fun x =>
      x.1.readyFor (stagedOf .define c) && x.1.refusal .define c == none &&
        firstFailing (stepSix x.1 .define c) == none && x.1.target (slotOf c) == some clock &&
        (x.1.port clock.port).state == x.2) = true := by decide

/-- Port 1 free, BUSY with the scrub read of the entry, RECOVERING and DOWN. -/
theorem witness_UpdateIsTakenAtOnce :
    let b := bytes 1 0x0E 0 0
    let s := ready holdBoard .update b
    s.portFree clock.port = true ∧ min (clock.failures + 1) 15 < s.settings.failThreshold.toNat ∧
    [(s, PortState.idle), (busy (scrubbing s (engine .readWait)) readFlight, .busy),
     (round s .recovering (progress .first .timeout), .recovering), (down s, .down)].all (fun x =>
      x.1.readyFor (stagedOf .update b) && x.1.refusal .update b == none &&
        firstFailing (stepSix x.1 .update b) == none && x.1.target (slotOf b) == some clock &&
        x.1.entry (keyOf b) == some e0 && (x.1.port clock.port).state == x.2) = true := by decide

theorem witness_RetireRemoves :
    let b := bytes 1 0 0 0
    let s := ready markerBoard .retire b
    s.readyFor (stagedOf .retire b) = true ∧ s.refusal .retire b = none ∧
      s.target (slotOf b) = some markedClock ∧ s.entry (keyOf b) = some m0 := by decide

/-- The target is attached; EXACT found and missing, NEXT found from alias 0, and NEXT at the last key:
(option, alias). -/
theorem witness_QueriesAnswer :
    (let b := bytes 1 0 0 0
     (ready holdBoard .queryTarget b).readyFor (stagedOf .queryTarget b) = true ∧
      aliasInRange b = true ∧ (ready holdBoard .queryTarget b).target (slotOf b) = some clock) ∧
    [((1 : Byte), (1 : Byte)), (1, 0), (2, 0), (2, 1)].all (fun x =>
      let b := bytes x.2 0 0 x.1
      let s := ready holdBoard .queryEntry b
      s.readyFor (stagedOf .queryEntry b) && aliasInRange b &&
        (b.option.extractLsb' 0 2 == x.1.setWidth 2) && (s.image.entries.all fun e =>
          (keyRank (keyOf b) < keyRank e.key) == (x.2 == 0))) = true ∧
    KeysRise holdBoard.image.entries ∧ e0 ∈ holdBoard.image.entries ∧
      e0.key = keyOf (bytes 1 0 0 1) :=
  ⟨by decide, by decide, oneRises e0, by decide, by decide⟩

theorem witness_ReadAndWriteStart :
    let b := bytes 1 3 0 0
    let s := ready bare .write b
    let d := down s
    let r := round s .recovering (progress .first .timeout)
    (s.readyFor (stagedOf .write b) = true ∧ s.refusal .write b = none ∧
      firstFailing (stepSix s .write b) = none ∧ s.target (slotOf b) = some clock ∧
      s.portFree clock.port = true) ∧
    ((busy s readFlight).readyFor (stagedOf .write b) = true ∧
      ((busy s readFlight).port clock.port).state = .busy) ∧
    (r.readyFor (stagedOf .write b) = true ∧ (r.port clock.port).state = .recovering) ∧
    d.readyFor (stagedOf .write b) = true ∧ (d.port clock.port).state = .down ∧
      min (clock.failures + 1) 15 < d.settings.failThreshold.toNat := by decide

theorem witness_RestoreClaimsAndWalks :
    let b := bytes 1 0 0 0
    let s := ready holdBoard .restore b
    let t := ready markerBoard .restore b
    let u := ready bare .restore b
    let want (e : Entry) := e.key.aliasNo == slotOf b && (e.cls == .hold || e.cls == .restoreOnly)
    (s.readyFor (stagedOf .restore b) = true ∧ s.refusal .restore b = none ∧
      s.target (slotOf b) = some clock ∧ s.nextEntry none want = some e0 ∧
      s.portFree clock.port = true) ∧
    (t.readyFor (stagedOf .restore b) = true ∧ t.refusal .restore b = none ∧
      t.target (slotOf b) = some markedClock ∧ t.nextEntry none want = none ∧
      t.entry { aliasNo := slotOf b, addr := 0x14 } = some m0 ∧ t.portFree clock.port = true) ∧
    u.readyFor (stagedOf .restore b) = true ∧ u.refusal .restore b = none ∧
      u.target (slotOf b) = some clock ∧ u.nextEntry none want = none ∧ clock.marker = none := by
  decide

theorem witness_VerifyReadsTheFirstEntry :
    let b := bytes 1 0 0 0
    let s := ready holdBoard .verify b
    let u := ready bare .verify b
    let want (e : Entry) := e.key.aliasNo == slotOf b && e.cls != .restoreOnly
    (s.readyFor (stagedOf .verify b) = true ∧ s.refusal .verify b = none ∧
      s.target (slotOf b) = some clock ∧ s.nextEntry none want = some e0 ∧
      s.portFree clock.port = true) ∧
    u.readyFor (stagedOf .verify b) = true ∧ u.refusal .verify b = none ∧
      u.target (slotOf b) = some clock ∧ u.nextEntry none want = none := by decide

/-- The clock generator while an engine restores it. -/
def claimedBy (who : Engine) : Target := { clock with state := .restoring, restorer := some who }

/-- The transactions of an UPDATE of an ONLINE target, and of a QUARANTINED one: base read, write and verify
read, each ended DONE and not acknowledged. -/
theorem witness_ApplyRunsItsTransactions :
    let b := bytes 1 0x0C 0 0
    let e := divider .hold .pending
    [clock, quarantined].all (fun x =>
      [(WriteStep.baseRead, (none : Option Byte)), (.write, some 0x6C), (.verifyRead, some 0x6C)].all
        fun y =>
          let f := flight .executor (writeStepForm y.1 e y.2 .bits8)
          let s := busy (carrying ((board [e]).setTarget 1 (some x)) .update b (.apply y.1 y.2)) f
          alone s f && f.requester == .executor && !f.discarded && f.aliasNo == slotOf b &&
            s.command == some { staged := stagedOf .update b, progress := .apply y.1 y.2 } &&
            s.entry (keyOf b) == some e && s.target (slotOf b) == some x && x.port == .p1 &&
            x.busAddr == f.busAddr && (endOutcome f.form none 0x6C == some (.done 0x6C)) &&
            (endOutcome f.form (some .regLow) 0 == some .dataRefused)) = true ∧
    (0x6C : Byte) &&& e.mask = e.expected &&& e.mask ∧
      (0x63 : Byte) &&& e.mask ≠ e.expected &&& e.mask ∧
      min (clock.failures + 1) 15 < bare.settings.failThreshold.toNat ∧
      KeysRise (board [e]).image.entries :=
  ⟨by decide, by decide, by decide, by decide, oneRises _⟩

/-- The read of the first of two compared entries, and of the only one, of a target in each state; it ends
DONE and not acknowledged. -/
theorem witness_VerifyWalksOn :
    let b := bytes 1 0 0 0
    let f := flight .executor (.read 0x14 .bits8)
    let v : VerifyProgress :=
      { lastRead := none, read := 0, mismatches := 0, firstFailure := none, reading := some key }
    let e2 : Entry := { e0 with key := { aliasNo := 1, addr := 0x15 } }
    ([[e0], [e0, e2]].all fun es => [clock, quarantined, claimedBy .scrub].all fun x =>
      let s := busy (carrying ((board es).setTarget 1 (some x)) .verify b (.verify v)) f
      alone s f && f.requester == .executor && !f.discarded && f.aliasNo == slotOf b &&
        f.form == .read e0.key.addr x.width && e0.key.aliasNo == slotOf b &&
        s.command == some { staged := stagedOf .verify b, progress := .verify v } &&
        v.reading == some e0.key && s.entry e0.key == some e0 && s.target (slotOf b) == some x &&
        x.port == .p1 && x.busAddr == f.busAddr &&
        ((s.nextEntry (some e0.key) fun y => y.key.aliasNo == slotOf b && y.cls != .restoreOnly) ==
          if es.length == 1 then none else some e2)) = true ∧
    (endOutcome f.form none 0x6C = some (.done 0x6C) ∧ e0.atResetValue 0x6C = false ∧
      endOutcome f.form (some .address) 0 = some .noResponse ∧
      min (clock.failures + 1) 15 < bare.settings.failThreshold.toNat) ∧
    KeysRise (board [e0]).image.entries ∧ KeysRise (board [e0, e2]).image.entries :=
  ⟨by decide, by decide, oneRises _, by simp [KeysRise, board]; decide⟩

/-- The marker's scrub read, not stale and stale, and its read by a VERIFY, of a target in each state. -/
theorem witness_MarkerAtResetValueIsClaimed :
    let b := bytes 1 0 0 0
    let w : VerifyProgress :=
      { lastRead := none, read := 0, mismatches := 0, firstFailure := none, reading := some key }
    [TargetState.online, .restoring, .quarantined].all (fun st => [true, false].all fun stale =>
      let x : Target :=
        { markedClock with state := st, restorer := if st == .restoring then some .scrub else none }
      let s0 := (board [m0]).setTarget 1 (some x)
      let fs := flight .scrub (.read 0x14 .bits8)
      let fe := flight .executor (.read 0x14 .bits8)
      let s := busy (scrubbing s0 { engine .readWait with stale := stale }) fs
      let t := busy (carrying s0 .verify b (.verify w)) fe
      alone s fs && alone t fe && fs.form == .read m0.key.addr x.width && !fs.discarded &&
        fs.aliasNo == m0.key.aliasNo && s.entry m0.key == some m0 && m0.cls == .marker &&
        m0.resetValue == some 0 && s.target m0.key.aliasNo == some x && x.port == .p1 &&
        x.busAddr == fs.busAddr && x.marker == some m0.key.addr && s.scrub.state == .readWait &&
        s.scrub.current == some m0.key && s.scrub.stale == stale && slotOf b == m0.key.aliasNo &&
        t.command == some { staged := stagedOf .verify b, progress := .verify w } &&
        w.reading == some m0.key && t.entry m0.key == some m0 && t.target m0.key.aliasNo == some x) =
      true ∧
    (0x60 : Byte) &&& m0.mask = 0 &&& m0.mask ∧ KeysRise (board [m0]).image.entries :=
  ⟨by decide, by decide, oneRises _⟩

/-- A restore step of either engine, in either phase, at its base read and at its write, with no next entry
and with one; the ends are DONE and not acknowledged, the failures below and at the threshold. -/
theorem witness_RestoreStepsOn :
    let e2 : Entry := { e0 with key := { aliasNo := 1, addr := 0x15 } }
    let c := stagedOf .restore (bytes 1 0 0 0)
    ([Engine.scrub, .executor].all fun eng => [RestorePhase.general, .marker].all fun ph =>
      [RestoreStage.baseRead, .write].all fun sg => [[e0], [e0, e2]].all fun es =>
        let g : RestoreProgress :=
          { RestoreProgress.start 1 with
            phase := ph, stage := sg, step := some key
            base := if sg == .write then some 0x6C else none }
        let f := flight eng (writeStepForm (stageStep sg) e0 g.base .bits8)
        let x := claimedBy eng
        let s0 := (board es).setTarget 1 (some x)
        let s := busy (match eng with
          | .scrub => scrubbing s0 { engine .restore with current := none, restore := some g }
          | .executor => s0.working c (.restore g false)) f
        alone s f && f.requester == eng && !f.discarded && f.aliasNo == g.aliasNo &&
          (eng != .scrub || (s.scrub.state == .restore && s.scrub.restore == some g)) &&
          (eng != .executor || s.command == some { staged := c, progress := .restore g false }) &&
          g.step == some e0.key && e0.key.aliasNo == g.aliasNo && s.entry e0.key == some e0 &&
          s.target g.aliasNo == some x && x.state == .restoring && x.port == .p1 &&
          x.busAddr == f.busAddr && endOutcome f.form none 0x6C == some (.done 0x6C) &&
          endOutcome f.form (some .address) 0 == some .noResponse &&
          ((s.nextEntry (some e0.key) fun y =>
            y.key.aliasNo == g.aliasNo && (y.cls == .hold || y.cls == .restoreOnly)) ==
            if es.length == 1 then none else some e2)) = true ∧
    (min (clock.failures + 1) 15 < bare.settings.failThreshold.toNat ∧
      bare.settings.failThreshold.toNat ≤ min (({ clock with failures := 3 } : Target).failures + 1) 15) ∧
    KeysRise (board [e0]).image.entries ∧ KeysRise (board [e0, e2]).image.entries :=
  ⟨by decide, by decide, oneRises _, by simp [KeysRise, board]; decide⟩

/-- Setting 1 at its lowest value, and setting 3 at its highest, 15. -/
theorem witness_SetStoresTheSetting :
    (let b := bytes 1 0 0 0
     (ready bare .set b).readyFor (stagedOf .set b) = true ∧
      settingOf b.aliasNo = some .scrubMode ∧ settingInRange .scrubMode b.value = true) ∧
    let b := bytes 3 15 0 0
    (ready bare .set b).readyFor (stagedOf .set b) = true ∧
      settingOf b.aliasNo = some .failThreshold ∧ settingInRange .failThreshold b.value = true := by
  decide

theorem witness_CommitSanctions :
    let b := bytes 0 0 0 1
    let c := bytes 0 0 0 2
    ((ready holdBoard .commit b).readyFor (stagedOf .commit b) = true ∧
      b.option.extractLsb' 0 2 = 1) ∧
    (ready holdBoard .commit c).readyFor (stagedOf .commit c) = true ∧
      c.option.extractLsb' 0 2 = 2 := by decide

theorem witness_PortResetStartsRounds :
    let b := bytes 0 1 0 0
    let s := ready bare .portReset b
    (s.readyFor (stagedOf .portReset b) = true ∧ portNumber b.value = some .p1 ∧
      s.portFree .p1 = true) ∧
    ((down s).readyFor (stagedOf .portReset b) = true ∧ ((down s).port .p1).state = .down ∧
      ((down s).port .p1).recovery = none) ∧
    (busy s readFlight).readyFor (stagedOf .portReset b) = true ∧
      ((busy s readFlight).port .p1).state = .busy := by decide

theorem witness_StartCheckAndTimeouts :
    let f : Flight := { readFlight with phase := .startCheck }
    let s := busy (scrubbing holdBoard (engine .readWait)) f
    (s.resetnLow = false ∧ (s.port .p1).state = .busy ∧ (s.port .p1).flight = some f ∧
      f.phase = .startCheck) ∧ (bare.port .p1).flight = none := by decide

/-- A READ of an 8-bit target and a WRITE of a 16-bit one, in their start check. -/
theorem witness_TransactionEndCompletesTheCommand :
    let b := bytes 1 7 0 0
    [(CommandKind.read, Width.bits8), (.write, .bits16)].all (fun y =>
      let x : Target := { clock with width := y.2 }
      let f : Flight :=
        { flight .executor (directForm (stagedOf y.1 b) y.2) with phase := .startCheck }
      let s := busy (carrying (bare.setTarget 1 (some x)) y.1 b .direct) f
      alone s f && f.form == directForm (stagedOf y.1 b) x.width && !f.discarded &&
        f.requester == .executor &&
        s.command == some { staged := stagedOf y.1 b, progress := .direct } &&
        s.target f.aliasNo == some x && x.port == .p1 && x.busAddr == f.busAddr &&
        decide (min (x.failures + 1) 15 < s.settings.failThreshold.toNat) &&
        f.phase == .startCheck) = true := by decide

theorem witness_DiscardedOutcomeReachesNoOne :
    let f : Flight := { readFlight with discarded := true }
    let s := busy bare f
    s.resetnLow = false ∧ s.atRest = true ∧
      s.port .p1 = { s.port .p1 with state := .busy, flight := some f, waiting := [] } ∧
      f.discarded = true ∧ SentByte.readAddress ∈ sentBytes f.form := by decide

/-- A matching and a mismatching value, with the stale mark and a stop request set and clear, of a CLEAN
WATCH entry with halt yes and halt no. -/
theorem witness_ScrubReadIsApplied :
    [true, false].all (fun stale => [true, false].all fun stop => [true, false].all fun halt =>
      let e : Entry := { divider .watch .clean with halt := halt }
      let s := busy (scrubbing (board [e])
        { engine .readWait with stale := stale, stopRequested := stop }) readFlight
      alone s readFlight && readFlight.requester == .scrub && !readFlight.discarded &&
        readFlight.form == .read e.key.addr clock.width && readFlight.aliasNo == e.key.aliasNo &&
        s.scrub.state == .readWait && s.scrub.current == some e.key && s.scrub.stale == stale &&
        s.scrub.stopRequested == stop && s.entry e.key == some e && !e.atResetValue 0x63 &&
        s.target e.key.aliasNo == some clock && clock.state == .online && clock.port == .p1 &&
        clock.busAddr == readFlight.busAddr) = true ∧
    ((0x6C : Byte) &&& 0x1F = 0x0C &&& 0x1F ∧ (0x63 : Byte) &&& 0x1F ≠ 0x0C &&& 0x1F) ∧
      KeysRise (board [divider .watch .clean]).image.entries :=
  ⟨by decide, by decide, oneRises _⟩

theorem witness_ScrubReadBeginsTheRepair :
    let s := reading e0
    (s.resetnLow = false ∧ s.atRest = true ∧
      s.port .p1 = { s.port .p1 with state := .busy, flight := some readFlight, waiting := [] } ∧
      readFlight.requester = .scrub ∧ readFlight.form = .read e0.key.addr clock.width ∧
      readFlight.discarded = false ∧ readFlight.aliasNo = e0.key.aliasNo ∧
      s.scrub.state = .readWait ∧ s.scrub.current = some e0.key ∧ s.scrub.stale = false ∧
      s.scrub.stopRequested = false ∧ s.entry e0.key = some e0 ∧ e0.cls = .hold ∧ e0.halt = false ∧
      e0.state = .clean ∧ s.target e0.key.aliasNo = some clock ∧ clock.state = .online ∧
      clock.port = .p1 ∧ clock.busAddr = readFlight.busAddr ∧
      (0x63 : Byte) &&& e0.mask ≠ e0.expected &&& e0.mask) ∧ KeysRise s.image.entries := by
  refine ⟨by decide, ?_⟩
  simp [KeysRise, reading, busy, scrubbing, board]

/-- Each transaction of a repair, with the stale mark and a stop request set and clear, its attempts below
REPAIR_LIMIT, 3, and reaching it. -/
theorem witness_RepairRunsItsTransactions :
    [true, false].all (fun stale => [true, false].all fun stop => [0, 2].all fun tries =>
      [(WriteStep.baseRead, (none : Option Byte)), (.write, some 0x63), (.verifyRead, some 0x63)].all
        fun y =>
          let e : Entry := { divider .hold .repairing with attempts := tries }
          let rep : Repair := { base := y.2, step := y.1 }
          let f := flight .scrub (writeStepForm rep.step e rep.base .bits8)
          let s := busy (scrubbing (board [e])
            { engine (if y.1 = .verifyRead then .verifyWait else .repairWait) with
              stale := stale, stopRequested := stop, repair := some rep }) f
          alone s f && f.requester == .scrub && !f.discarded && f.aliasNo == e.key.aliasNo &&
            f.form == writeStepForm rep.step e rep.base clock.width &&
            s.scrub.current == some e.key && s.scrub.repair == some rep &&
            s.scrub.stale == stale && s.scrub.stopRequested == stop && s.entry e.key == some e &&
            e.state == .repairing && s.target e.key.aliasNo == some clock &&
            clock.busAddr == f.busAddr && endOutcome f.form none 0x6C == some (.done 0x6C) &&
            endOutcome f.form (some .address) 0 == some .noResponse &&
            decide (s.settings.repairLimit.toNat ≤ min (e.attempts + 1) 7) == (tries == 2)) = true ∧
    ((0x6C : Byte) &&& 0x1F = 0x0C &&& 0x1F ∧ (0x63 : Byte) &&& 0x1F ≠ 0x0C &&& 0x1F) ∧
      KeysRise (board [divider .hold .repairing]).image.entries :=
  ⟨by decide, by decide, oneRises _⟩

/-- Both rounds, of both origins, at a RECOVERING and at a DOWN port. -/
theorem witness_RecoveryRoundsEnd :
    [Round.first, .second].all (fun n => [RecoveryOrigin.timeout, .command].all fun o =>
      [PortState.recovering, .down].all fun st =>
        let b := bytes 0 1 0 0
        let r := progress n o
        let s := round (carrying bare .portReset b .portReset) st r
        !s.resetnLow && s.atRest && !r.discarded && (s.port .p1).state == st &&
          s.port .p1 == { s.port .p1 with recovery := some r, waiting := [] } &&
          s.command == some { staged := stagedOf .portReset b, progress := .portReset }) = true := by
  decide

/-- Port 1 about to enter DOWN with the scrub read, alone and with a PORT_RESET before or behind it, with a
READ, and with the probe of an ATTACH waiting. -/
theorem witness_DownPortAnswersTheWaiting :
    let waits (s : State) (o : RecoveryOrigin) (ws : List Request) : State :=
      { s with port1 := { Port.reset with
          state := .recovering, waiting := ws, recovery := some (progress .second o) } }
    let about (s : State) (o : RecoveryOrigin) (ws : List Request) : Bool :=
      !s.resetnLow && s.atRest && s.port .p1 ==
        { s.port .p1 with
          state := .recovering, flight := none, recovery := some (progress .second o), waiting := ws }
    let b := bytes 0 1 0 0
    [(RecoveryOrigin.timeout, [Request.scrub]), (.timeout, [.portReset, .scrub]),
     (.timeout, [.scrub, .portReset]), (.command, [.scrub])].all (fun y =>
      let s := waits (carrying (scrubbing holdBoard (engine .readWait)) .portReset b .portReset) y.1 y.2
      about s y.1 y.2 && s.scrub.state == .readWait && s.scrub.current == some key &&
        s.scrub.restore == none && s.target key.aliasNo == some clock && clock.port == .p1 &&
        decide (min (clock.failures + 1) 15 < s.settings.failThreshold.toNat) &&
        s.command == some { staged := stagedOf .portReset b, progress := .portReset }) = true ∧
    (let c := bytes 1 0 0 0
     let s := waits (carrying bare .read c .direct) .timeout [.executor]
     about s .timeout [.executor] = true ∧ s.target (slotOf c) = some clock ∧
      s.command = some { staged := stagedOf .read c, progress := .direct }) ∧
    let c := bytes 1 0x68 0 0x11
    let s := waits (carrying State.reset .attach c .probe) .timeout [.executor]
    about s .timeout [.executor] = true ∧ optionPort c.option = some .p1 ∧
      optionWidth c.option = some .bits8 ∧
      s.command = some { staged := stagedOf .attach c, progress := .probe } := by decide

/-- Both requests wait, at a passed-over count of 3 and of 4; a scrub read is chosen and formed, or
withdrawn for its stale mark. -/
theorem witness_ArbiterGrants :
    let x : Port := { Port.reset with waiting := [.scrub, .executor], passedOver := 4 }
    let s : State := { scrubbing holdBoard (engine .readWait) with
      port1 := { Port.reset with waiting := [.scrub] } }
    (x.waiting = [.scrub, .executor] ∧ 4 ≤ x.passedOver ∧ ¬4 ≤ ({ x with passedOver := 3 } : Port).passedOver) ∧
      (s.port .p1).choose = some .scrub ∧ (s.port .p1).flight = none ∧
      (s.grant .p1).1.port1.flight.isSome = true := by decide

theorem witness_ReadResultsMoveTheEntry :
    KeysRise holdBoard.image.entries ∧ e0 ∈ holdBoard.image.entries ∧
      divider .hold .repairing ∈ (board [divider .hold .repairing]).image.entries ∧
      (divider .hold .repairing).state = .repairing :=
  ⟨by simp [KeysRise, holdBoard, board], by decide, by decide, rfl⟩

/-- A report of another place, a success, and failures below and at the threshold of 4. -/
theorem witness_ReportsAreCounted :
    bare.target 1 = some clock ∧ clock.port ≠ .p0 ∧ clock.busAddr = 0x68 ∧
      BusOutcome.noResponse.isDone = false ∧ BusOutcome.noResponse ≠ .withheld ∧
      clock.state ≠ .quarantined ∧
      min (clock.failures + 1) 15 < bare.settings.failThreshold.toNat ∧
      bare.settings.failThreshold.toNat ≤ min (({ clock with failures := 3 } : Target).failures + 1) 15 := by
  decide

theorem witness_IrqFollowsDoneAndDisable :
    (∃ t, exec (.hardwareReset .powerOn) holdBoard = .next t) ∧ holdBoard.resetnLow = false ∧
      ∃ t, exec (.interfaceReset 0) holdBoard = .next t := ⟨⟨_, rfl⟩, rfl, ⟨_, rfl⟩⟩

/-! ### States that meet the invariants, for the statements about every step -/

/-- What holds of every record in a small Target Table. -/
theorem forall_target {s : State} {P : Fin 16 → Target → Bool}
    (h : ∀ a, (s.target a).all (P a) = true) (a : Fin 16) (t : Target) (ht : s.target a = some t) :
    P a t = true := by
  have := h a
  rw [ht] at this
  exact this

/-- The part while a restore by the executor is under way. -/
def restoring : State := after .commandTake (ready holdBoard .restore (bytes 1 0 0 0))

/-- The part while the Scrub Engine repairs the entry. -/
def repairing : State := after (.transactionEnd .p1 none 0x63) (reading e0)

theorem witness_StepKeepsTheImage :
    ImageOk repairing ∧
      ∃ t, step { repairing with pending := [.transactionEnd .p1 none 0] } = .next t :=
  ⟨⟨by unfold KeysRise; decide, by decide, by decide, by decide +kernel⟩, _, rfl⟩

theorem witness_StepKeepsTheHostSide :
    (QueuesOk restoring ∧ DoneOk (heldBoard .hold 0x1F) ∧ FaultOk restoring) ∧
      ∃ t, step { restoring with pending := [.transactionEnd .p1 none 0] } = .next t :=
  ⟨⟨⟨by decide, by decide, by decide, by decide⟩, fun _ => .inl rfl, nofun⟩, _, rfl⟩

theorem witness_settingsOk : SettingsOk restoring := by
  intro k; cases k <;> decide

theorem witness_StepKeepsThePorts :
    PortsOk repairing ∧
      ∃ t, step { repairing with pending := [.stretchTimeout .p1] } = .next t := by
  refine ⟨fun p => ?_, _, rfl⟩
  cases p <;> exact ⟨by decide, by decide, by decide, by decide⟩

theorem witness_StepKeepsTheClaims :
    RestorerOk restoring ∧ (restoring.target 1).map (·.restorer) = some (some .executor) ∧
      ∃ t, step { restoring with pending := [.transactionEnd .p1 none 0x6C] } = .next t := by
  refine ⟨⟨?_, ?_, ?_, ?_⟩, by decide, _, rfl⟩
  · intro a t h
    exact of_decide_eq_true
      (forall_target (P := fun _ t => decide (t.state = .online → t.restorer = none)) (by decide) a t h)
  · intro a t h
    exact of_decide_eq_true
      (forall_target (P := fun _ t => decide (t.state = .restoring → t.restorer.isSome = true))
        (by decide) a t h)
  · intro a t h hr
    have := forall_target (P := fun _ t => decide (t.restorer ≠ some .scrub)) (by decide) a t h
    exact absurd hr (by simpa using this)
  · intro a t h hr
    have := forall_target (P := fun a t => decide (t.restorer = some .executor → a = 1))
      (by decide) a t h
    have ha : a = 1 := of_decide_eq_true this hr
    exact ⟨_, _, _, rfl, ha.symm⟩

theorem witness_StepKeepsTheMarkers :
    (ImageOk markerBoard ∧ MarkersOk markerBoard) ∧
      ∃ t, step { ready markerBoard .retire (bytes 1 0 0 0) with pending := [.commandTake] } =
        .next t := by
  refine ⟨⟨⟨by unfold KeysRise; decide, by decide, by decide, by decide +kernel⟩, ?_, ?_, nofun⟩, _, rfl⟩
  · decide
  · intro a t addr h
    have ha := of_decide_eq_true
      (forall_target (P := fun a t => decide (a = 1 ∧ t.marker = some 0x14)) (by decide) a t h)
    have hm : ∀ e ∈ markerBoard.image.entries, e = m0 := by decide
    rw [ha.2, ha.1]
    constructor
    · intro h; exact ⟨m0, by decide, by rw [← Option.some.inj h]; rfl, rfl⟩
    · rintro ⟨e, he, hk, -⟩
      rw [hm e he] at hk
      exact congrArg some (congrArg Key.addr hk)

theorem witness_StepKeepsThePlaces :
    PlacesOk probeBoard ∧
      ∃ t, step { probeBoard with pending := [.transactionEnd .p1 none 0] } = .next t := by
  refine ⟨⟨?_, ?_⟩, _, rfl⟩
  · intro a b x y h
    have := forall_target (P := fun _ _ => false) (s := probeBoard) (by decide) a x h
    exact absurd this (by decide)
  · intro c h
    have : c = stagedOf .attach (bytes 1 0x68 0 0x11) := by
      have := Option.some.inj h; exact (Command.mk.inj this).1.symm
    subst this; decide

theorem witness_StepKeepsTheEntries :
    (RepairingOk repairing ∧ EntryRangesOk repairing ∧ ResetValuesOk markerBoard ∧
      (repairing.entry key).map (·.state) = some .repairing) ∧
      ∃ t, step { repairing with pending := [.transactionEnd .p1 none 0] } = .next t := by
  refine ⟨⟨?_, ?_, ?_, by decide⟩, _, rfl⟩
  · unfold RepairingOk; decide
  · intro e he
    have : e.attempts ≤ 7 ∧ e.drifts ≤ 255 ∧ e.lastObserved = some 3 ∧ e.mask = 0x1F := by
      revert e; decide
    refine ⟨this.1, this.2.1, fun m hm => ?_⟩
    rw [this.2.2.1] at hm
    rw [← Option.some.inj hm, this.2.2.2]; decide
  · intro e he
    have : e = m0 := by revert e; decide
    subst this
    refine ⟨by decide, fun r hr => ?_⟩
    rw [← Option.some.inj hr]; decide

/-- A READ is refused on a QUARANTINED target, and the target stays so. -/
theorem witness_OnlySoftwareEndsAQuarantine :
    let s := ready (bare.setTarget 1 (some quarantined)) .read (bytes 1 0 0 0)
    s.command.isNone = true ∧ s.target 1 = some quarantined ∧ quarantined.state = .quarantined ∧
      ∃ t, exec (.read (bytes 1 0 0 0)) s = .next t := ⟨rfl, rfl, rfl, _, rfl⟩

/-- IDIS moves the Disable flags. -/
theorem witness_OnlyTheirCommandsMoveThem :
    (∃ t, exec (.idisWrite 0) holdBoard = .next t ∧
      t.sections.disable ≠ holdBoard.sections.disable) ∧
      ∀ cause, Instr.idisWrite 0 ≠ .hardwareReset cause := ⟨⟨_, rfl, by decide⟩, nofun⟩

theorem witness_OneRecordForEachCommand :
    let s := directBoard .read (.read 0x14 .bits8)
    s.command = some ⟨stagedOf .read (bytes 1 7 0 0), .direct⟩ ∧
      (∃ t, exec (.transactionEnd .p1 none 5) s = .next t) ∧
      (∀ cause, Instr.transactionEnd .p1 none 5 ≠ .hardwareReset cause) ∧
      (∀ code, Instr.transactionEnd .p1 none 5 ≠ .interfaceReset code) ∧
      Instr.transactionEnd .p1 none 5 ≠ .resultStart ∧
      Instr.transactionEnd .p1 none 5 ≠ .resultClear :=
  ⟨rfl, ⟨_, rfl⟩, nofun, nofun, nofun, nofun⟩

end Tests
end Sys2Proof
end

section
/-! PROOF. The signature is the remainder of the image's polynomial by the generator (R106).

Words and byte strings are read as polynomials over the field of two elements. Modulo the generator one
bit of the computation multiplies the register by X and adds the input bit at X ^ 16, so a whole run is
known up to a multiple of the generator; a register has degree below 16, so it is the remainder. -/

namespace Sys2Proof
namespace Machine

open Polynomial

/-- A bit as a coefficient. -/
noncomputable def bitPoly (b : Bool) : Polynomial (ZMod 2) := if b then 1 else 0

/-- A word as the polynomial with its bits as coefficients, bit 0 the constant term. -/
noncomputable def wordPoly {n : Nat} (w : BitVec n) : Polynomial (ZMod 2) :=
  ∑ i ∈ Finset.range n, bitPoly (w.getLsbD i) * X ^ i

/-- A byte string as a polynomial, the last byte at the lowest powers. -/
noncomputable def messagePoly (bs : List Byte) : Polynomial (ZMod 2) :=
  bs.foldl (fun m b => m * X ^ 8 + wordPoly b) 0

/-- The generator polynomial of R106. -/
noncomputable def crcGenerator : Polynomial (ZMod 2) := X ^ 16 + X ^ 12 + X ^ 5 + 1

/-! ### Words as polynomials -/

@[simp] theorem bitPoly_false : bitPoly false = 0 := rfl

@[simp] theorem bitPoly_true : bitPoly true = 1 := rfl

theorem bitPoly_xor (a b : Bool) : bitPoly (a ^^ b) = bitPoly a + bitPoly b := by
  cases a <;> cases b <;> simp [CharTwo.add_self_eq_zero]

theorem wordPoly_xor {n : Nat} (v w : BitVec n) :
    wordPoly (v ^^^ w) = wordPoly v + wordPoly w := by
  simp [wordPoly, bitPoly_xor, add_mul, Finset.sum_add_distrib]

/-- A shift multiplies by X, except that the top bit is lost. -/
theorem wordPoly_shiftLeft_one {n : Nat} (w : BitVec (n + 1)) :
    wordPoly (w <<< 1) + bitPoly (w.getLsbD n) * X ^ (n + 1) = wordPoly w * X := by
  have moved : ∀ i ∈ Finset.range n, bitPoly ((w <<< 1).getLsbD (i + 1)) * X ^ (i + 1) =
      bitPoly (w.getLsbD i) * X ^ i * X := by
    intro i hi
    have hn : i + 1 < n + 1 := by simpa using hi
    have bit_eq : (w <<< 1).getLsbD (i + 1) = w.getLsbD i := by
      rw [BitVec.getLsbD_shiftLeft]; simp [hn]
    rw [bit_eq, pow_succ, mul_assoc]
  calc wordPoly (w <<< 1) + bitPoly (w.getLsbD n) * X ^ (n + 1)
      = ∑ i ∈ Finset.range n, bitPoly (w.getLsbD i) * X ^ i * X +
          bitPoly (w.getLsbD n) * X ^ n * X := by
        rw [wordPoly, Finset.sum_range_succ', Finset.sum_congr rfl moved]
        simp [pow_succ, mul_assoc]
    _ = wordPoly w * X := by rw [wordPoly, Finset.sum_range_succ, add_mul, Finset.sum_mul]

theorem wordPoly_byte (b : Byte) :
    wordPoly b = bitPoly (b.getLsbD 0) + bitPoly (b.getLsbD 1) * X + bitPoly (b.getLsbD 2) * X ^ 2 +
      bitPoly (b.getLsbD 3) * X ^ 3 + bitPoly (b.getLsbD 4) * X ^ 4 + bitPoly (b.getLsbD 5) * X ^ 5 +
      bitPoly (b.getLsbD 6) * X ^ 6 + bitPoly (b.getLsbD 7) * X ^ 7 := by
  simp only [wordPoly, Finset.sum_range_succ, Finset.sum_range_zero, zero_add, pow_zero, mul_one,
    pow_one]

theorem degree_wordPoly_lt {n : Nat} (w : BitVec n) : (wordPoly w).degree < n := by
  rw [wordPoly, ← mem_degreeLT]
  refine Submodule.sum_mem _ fun i hi => mem_degreeLT.2 ?_
  have term_le : (bitPoly (w.getLsbD i) * X ^ i).degree ≤ (i : WithBot ℕ) := by
    cases w.getLsbD i <;> simp
  exact term_le.trans_lt (by exact_mod_cast Finset.mem_range.1 hi)

@[simp] theorem messagePoly_nil : messagePoly [] = 0 := rfl

@[simp] theorem messagePoly_concat (bs : List Byte) (b : Byte) :
    messagePoly (bs ++ [b]) = messagePoly bs * X ^ 8 + wordPoly b := by
  simp [messagePoly]

/-! ### The generator -/

theorem crcGenerator_monic : crcGenerator.Monic := by
  unfold crcGenerator; monicity!

theorem degree_crcGenerator : crcGenerator.degree = (16 : ℕ) := by
  unfold crcGenerator; compute_degree!

/-- 0x1021 is the generator without its X ^ 16 term (R106). -/
theorem crcGenerator_eq : crcGenerator = X ^ 16 + wordPoly (0x1021 : Half) := by
  simp [crcGenerator, wordPoly, Finset.sum_range_succ]
  ring

/-! ### The computation modulo the generator -/

theorem crcBit_eq (r : Half) (b : Bool) :
    crcBit r b = (r <<< 1) ^^^ (if r.getLsbD 15 = b then 0 else 0x1021) := by
  by_cases same : r.getLsbD 15 = b
  · rw [crcBit, if_pos (beq_iff_eq.2 same), if_pos same]; simp
  · rw [crcBit, if_neg (mt beq_iff_eq.1 same), if_neg same]

/-- One bit of the computation: up to a multiple of the generator, the register is multiplied by X and
the input bit is added at X ^ 16. -/
theorem wordPoly_crcBit (r : Half) (b : Bool) :
    wordPoly (crcBit r b) =
      wordPoly r * X + bitPoly b * X ^ 16 + bitPoly (r.getLsbD 15 ^^ b) * crcGenerator := by
  have combined : wordPoly (if r.getLsbD 15 = b then 0 else 0x1021 : Half) =
      bitPoly (r.getLsbD 15 ^^ b) * wordPoly (0x1021 : Half) := by
    by_cases same : r.getLsbD 15 = b
    · rw [if_pos same, same, Bool.xor_self]; simp [wordPoly]
    · rw [if_neg same, Bool.xor_iff_ne.2 same, bitPoly_true, one_mul]
  have two_eq_zero : (2 : Polynomial (ZMod 2)) = 0 := CharTwo.two_eq_zero
  rw [crcBit_eq, wordPoly_xor, combined, crcGenerator_eq, bitPoly_xor, ← wordPoly_shiftLeft_one r]
  linear_combination -(bitPoly (r.getLsbD 15) + bitPoly b) * X ^ 16 * two_eq_zero

/-- The class of a polynomial modulo the generator. -/
noncomputable def crcClass : Polynomial (ZMod 2) →+* AdjoinRoot crcGenerator :=
  AdjoinRoot.mk crcGenerator

theorem crcClass_crcGenerator : crcClass crcGenerator = 0 := AdjoinRoot.mk_self

theorem crcClass_eq_iff {p q : Polynomial (ZMod 2)} :
    crcClass p = crcClass q ↔ crcGenerator ∣ p - q := AdjoinRoot.mk_eq_mk

theorem crcClass_crcBit (r : Half) (b : Bool) :
    crcClass (wordPoly (crcBit r b)) = crcClass (wordPoly r * X + bitPoly b * X ^ 16) := by
  rw [wordPoly_crcBit, map_add, map_mul _ _ crcGenerator, crcClass_crcGenerator, mul_zero, add_zero]

theorem crcByte_eq (r : Half) (b : Byte) :
    crcByte r b = [7, 6, 5, 4, 3, 2, 1, 0].foldl (fun r i => crcBit r (b.getLsbD i)) r := rfl

/-- One byte of the computation takes the register eight powers up and adds the byte at X ^ 16. -/
theorem crcClass_crcByte (r : Half) (b : Byte) :
    crcClass (wordPoly (crcByte r b)) = crcClass (wordPoly r * X ^ 8 + wordPoly b * X ^ 16) := by
  simp only [crcByte_eq, List.foldl_cons, List.foldl_nil, crcClass_crcBit, wordPoly_byte, map_add,
    map_mul, map_pow]
  ring

/-- A run over a byte string, from any register. -/
theorem crcClass_foldl_crcByte (r : Half) (bs : List Byte) :
    crcClass (wordPoly (bs.foldl crcByte r)) =
      crcClass (wordPoly r * X ^ (8 * bs.length) + messagePoly bs * X ^ 16) := by
  induction bs using List.reverseRecOn with
  | nil => simp
  | append_singleton bs b ih =>
    have length_eq : 8 * (bs ++ [b]).length = 8 * bs.length + 8 := by simp; ring
    rw [List.foldl_concat, crcClass_crcByte, map_add, map_mul, ih, ← map_mul, ← map_add,
      messagePoly_concat, length_eq]
    exact congrArg crcClass (by ring)

/-- A register is the remainder of every polynomial of its class. -/
theorem wordPoly_eq_modByMonic {r : Half} {p : Polynomial (ZMod 2)}
    (h : crcClass (wordPoly r) = crcClass p) : wordPoly r = p %ₘ crcGenerator := by
  have reduced : wordPoly r %ₘ crcGenerator = wordPoly r :=
    (modByMonic_eq_self_iff crcGenerator_monic).2
      ((degree_wordPoly_lt r).trans_eq degree_crcGenerator.symm)
  exact reduced.symm.trans <| modByMonic_eq_of_dvd_sub crcGenerator_monic (crcClass_eq_iff.1 h)

theorem wordPoly_signatureOf (es : List Entry) :
    wordPoly (signatureOf es) =
      (wordPoly (0xFFFF : Half) * X ^ (8 * (imageBytes es).length) +
        messagePoly (imageBytes es) * X ^ 16) %ₘ crcGenerator :=
  wordPoly_eq_modByMonic (crcClass_foldl_crcByte 0xFFFF (imageBytes es))

/-- Settles O47: the remainder by the run of the computation modulo the generator, the step of a bit and
of a byte and the bytes of an entry by their equations. -/
theorem signatureIsTheCrc : Obligations.SignatureIsTheCrc :=
  ⟨wordPoly_signatureOf, crcBit_eq, crcByte_eq, rfl, fun _ => rfl⟩

end Machine
end Sys2Proof
end

section
/-! PROOF. A COMMIT at its take (R110, R137): its record passes validation, the reference and TABLE_FAULT
change, and the command ends there with nothing left to settle. -/

namespace Sys2Proof
namespace Machine

variable {s : State}

/-! ### A due take -/

/-- A row of the command table, when its record is due: the part after the take carries the record out,
with all that follows. -/
theorem takeRow_ready {c : Staged} (h : s.readyFor c = true) (carry : State → Staged → Reaction) :
    (s.whileRunning fun s => s.takeHead c carry) = .next (settled (carry s.afterTake c)) := by
  rw [whileRunning_running (readyFor_running h), takeHead_ready h, dequeue_eq_afterTake]

theorem afterTake_atRest {c : Staged} (h : s.readyFor c = true) : s.afterTake.atRest = true := by
  rw [← dequeue_eq_afterTake, dequeue_atRest, readyFor_atRest h]

theorem afterTake_noCommand {c : Staged} (h : s.readyFor c = true) : s.afterTake.command = none :=
  (readyFor_noCommand h :)

/-- A command that ends at its take leaves nothing but its record. -/
theorem finish_eq_answered (h : s.command = none) (r : Completion) : s.finish r = s.answered r := by
  simp only [State.finish, State.answered, ← h]

/-- A command that ends at its take starts no bus work, so nothing follows from it. -/
theorem settled_finish (hcmd : s.command = none) (hrest : s.atRest = true) (r : Completion) :
    settled (s.finish r, []) = s.answered r := by
  have rest : (s.finish r).atRest = true := (atRest_congr rfl rfl).trans hrest
  rw [settled_atRest rest, finish_eq_answered hcmd]

/-! ### COMMIT -/

theorem optionCommit_set {o : Byte} (h : o.extractLsb' 0 2 = 1) : optionCommit o = some .set := by
  unfold optionCommit; rw [h]; rfl

theorem optionCommit_clear {o : Byte} (h : o.extractLsb' 0 2 = 2) :
    optionCommit o = some .clear := by
  unfold optionCommit; rw [h]; rfl

/-- COMMIT names no target, so an assigned option is all that its validation asks for (R118, R119). -/
theorem refusal_commit {b : CmdBytes} {o : CommitOption} (h : optionCommit b.option = some o) :
    s.refusal .commit b = none :=
  refusal_none_iff.2 ⟨by simp [fieldsInRange, h], rfl, rfl, rfl⟩

theorem beginCommit_of_option {c : Staged} {o : CommitOption}
    (h : optionCommit c.body.option = some o) :
    s.beginCommit c =
      (({ s with image := { s.image with reference := s.committed o, tableFault := false } }).finish
        { completionOf c .ok with count := (s.committed o).getD 0 }, []) := by
  unfold State.beginCommit
  rw [validated_passes (refusal_commit h), h]

/-- With its option assigned, COMMIT changes the reference and TABLE_FAULT and ends with its record. -/
theorem settled_beginCommit {c : Staged} {o : CommitOption} (hcmd : s.command = none)
    (hrest : s.atRest = true) (h : optionCommit c.body.option = some o) :
    settled (s.beginCommit c) = State.answered
      { s with image := { s.image with reference := s.committed o, tableFault := false } }
      { completionOf c .ok with count := (s.committed o).getD 0 } := by
  rw [beginCommit_of_option h, settled_finish]
  · exact hcmd
  · exact (atRest_congr rfl rfl).trans hrest

/-- The take leaves the Image Table, so a due COMMIT acts on it as it stood. -/
theorem exec_commit {b : CmdBytes} {o : CommitOption}
    (ready : s.readyFor (stagedOf .commit b) = true) (h : optionCommit b.option = some o) :
    exec (.commit b) s = .next (State.answered
      { s.afterTake with
        image := { s.image with reference := s.committed o, tableFault := false } }
      { completionOf (stagedOf .commit b) .ok with count := (s.committed o).getD 0 }) := by
  have taken : exec (.commit b) s =
      .next (settled (s.afterTake.beginCommit (stagedOf .commit b))) := takeRow_ready ready _
  rw [taken, settled_beginCommit (afterTake_noCommand ready) (afterTake_atRest ready) h]
  rfl

/-- Settles O32: the run of a due COMMIT, at each of its two options. -/
theorem commitSanctions : Obligations.CommitSanctions := fun _ _ ready =>
  ⟨fun set => exec_commit ready (optionCommit_set set),
    fun clear => exec_commit ready (optionCommit_clear clear)⟩

end Machine
end Sys2Proof
end

section
/-! PROOF. IRQn as a level of the Done and Disable flags (R175): it is the disjunction over the four
sections, so a reset that sets every Disable flag, or clears every Done flag, releases it. -/

namespace Sys2Proof
namespace Machine

variable {s t : State}

/-! ### IRQn from the flags -/

theorem mem_allSections (x : SectionName) : x ∈ allSections := by cases x <;> decide

theorem irqAsserted_iff :
    s.irqAsserted = true ↔ ∃ x, s.doneFlag x = true ∧ s.disableFlag x = false := by
  simp [State.irqAsserted, mem_allSections]

theorem irqReleased_of_disabled (h : ∀ x, s.disableFlag x = true) : s.irqAsserted = false :=
  Bool.eq_false_iff.2 fun irq =>
    have ⟨x, _, enabled⟩ := irqAsserted_iff.1 irq
    Bool.eq_false_iff.1 enabled (h x)

theorem irqReleased_of_notDone (h : ∀ x, s.doneFlag x = false) : s.irqAsserted = false :=
  Bool.eq_false_iff.2 fun irq =>
    have ⟨x, done, _⟩ := irqAsserted_iff.1 irq
    Bool.eq_false_iff.1 (h x) done

/-! ### The flags after each reset -/

theorem sections_hardwareReset {cause : ResetCause} (h : exec (.hardwareReset cause) s = .next t) :
    t.sections = Sections.reset := by
  cases h; rfl

/-- Hardware reset disables every section (R174). -/
theorem disableFlag_hardwareReset {cause : ResetCause}
    (h : exec (.hardwareReset cause) s = .next t) (x : SectionName) : t.disableFlag x = true := by
  rw [State.disableFlag, sections_hardwareReset h]
  cases x <;> rfl

/-- Where Interface Reset leaves what the section flags are computed from (R153, R165, R178). -/
theorem flagSources_interfaceReset {code : BitVec 4} (running : s.resetnLow = false)
    (h : exec (.interfaceReset code) s = .next t) :
    t.sections = ⟨false, false, false, 0⟩ ∧ t.completions = [] ∧ t.log.records = [] := by
  change execInterfaceReset code s = .next t at h
  rw [execInterfaceReset, whileRunning_running running] at h
  cases h
  exact ⟨rfl, rfl, rfl⟩

theorem doneFlag_interfaceReset {code : BitVec 4} (running : s.resetnLow = false)
    (h : exec (.interfaceReset code) s = .next t) (x : SectionName) : t.doneFlag x = false := by
  obtain ⟨sections, completions, records⟩ := flagSources_interfaceReset running h
  cases x with
  | issue | scrub => simp [State.doneFlag, sections]
  | result => simp [State.doneFlag, completions]
  | alert => simp [State.doneFlag, records]

/-- Interface Reset enables every section (R174). -/
theorem disableFlag_interfaceReset {code : BitVec 4} (running : s.resetnLow = false)
    (h : exec (.interfaceReset code) s = .next t) (x : SectionName) : t.disableFlag x = false := by
  obtain ⟨sections, -, -⟩ := flagSources_interfaceReset running h
  simp [State.disableFlag, sections]

/-- Settles O48: the level from the four sections; hardware reset releases it by the Disable flags,
Interface Reset by the Done flags. -/
theorem irqFollowsDoneAndDisable : Obligations.IrqFollowsDoneAndDisable := fun _ =>
  ⟨irqAsserted_iff,
    fun _ _ reset =>
      have disabled := disableFlag_hardwareReset reset
      ⟨disabled, irqReleased_of_disabled disabled⟩,
    fun _ _ running reset =>
      have notDone := doneFlag_interfaceReset running reset
      ⟨fun x => ⟨notDone x, disableFlag_interfaceReset running reset x⟩,
        irqReleased_of_notDone notDone⟩⟩

end Machine
end Sys2Proof
end

section
/-! PROOF. The moves of the part: every outcome, answer, grant and settling is a run of a few guarded
updates. Said once here for each operation of the engines and the ports; what an invariant makes of an
event is then what it makes of each move. -/

namespace Sys2Proof
namespace Machine

/-! ### The moves -/

/-- The fields of one entry are within their ranges (R3, R4). -/
def Entry.RangeOk (e : Entry) : Prop :=
  e.attempts ≤ 7 ∧ e.drifts ≤ 255 ∧ ∀ m, e.lastObserved = some m → m &&& ~~~e.mask = 0

/-- The engine states in which an entry may be REPAIRING (R14). -/
def ScrubState.Repairing (x : ScrubState) : Prop := x = .repairWait ∨ x = .verifyWait

/-- A change of what the part knows of an entry: its definition stays, its fields stay within their
ranges, and it becomes REPAIRING only as the current entry of an engine that repairs. -/
structure EntryChange (s : State) (k : Key) (f : Entry → Entry) : Prop where
  bytes : ∀ e, entryBytes (f e) = entryBytes e
  key : ∀ e, (f e).key = e.key
  cls : ∀ e, (f e).cls = e.cls
  resetValue : ∀ e, (f e).resetValue = e.resetValue
  ranges : KeysRise s.image.entries → ∀ e ∈ s.image.entries, e.key = k → e.RangeOk → (f e).RangeOk
  repairing : ∀ e, (f e).state = .repairing →
    e.state = .repairing ∨ s.scrub.current = some k ∧ s.scrub.state.Repairing

/-- Two records of one target: the same place and the same marker. -/
structure SamePlace (x y : Target) : Prop where
  port : y.port = x.port
  busAddr : y.busAddr = x.busAddr
  marker : y.marker = x.marker

/-- The work of a command is no restore. -/
def Progress.NoRestore (g : Progress) : Prop := ∀ p turned, g ≠ .restore p turned

/-- An engine has this restore in progress (R58). -/
def State.Restores (s : State) (eng : Engine) (p : RestoreProgress) : Prop :=
  match eng with
  | .scrub => s.scrub.state = .restore ∧ s.scrub.restore = some p
  | .executor => ∃ c turned, s.command = some { staged := c, progress := .restore p turned }

/-- The state with the Scrub Engine and SCRUB.Done replaced. -/
def State.withEngine (s : State) (x : ScrubEngine) (done : Bool) : State :=
  { s with scrub := x, sections := { s.sections with scrubDone := done } }

/-- A record belongs to a command (R143). -/
def Completion.Answers (r : Completion) (c : Staged) : Prop := r.tag = c.body.tag ∧ r.kind = c.kind

/-- One guarded update. Every event, a host's access and the edit of a take apart, is a run of these. -/
inductive Move : State → State → Prop
  /-- A choice of order is made, the level of the QUIET input changes, commands come or go. -/
  | outside (s : State) (quiet : Bool) (n : Nat) (pending : List Instr) :
      Move s { s with quiet := quiet, choices := n, pending := pending }
  /-- A drift record is created. -/
  | log (s : State) (k : DriftKind) (w : Option Byte) (a : Option Half) (e o : Option Byte) :
      Move s (s.logDrift k w a e o)
  /-- A port moves, and stays a consistent port. -/
  | port (s : State) (p : PortId) (x : Port) (ok : PortOk (s.port p) → PortOk x) :
      Move s (s.setPort p x)
  /-- What the part knows of an entry changes. -/
  | entry (s : State) (k : Key) (f : Entry → Entry) (h : EntryChange s k f) :
      Move s (s.modifyEntry k f)
  /-- The self-check counts, and latches TABLE_FAULT only against a reference (R111). -/
  | selfCheck (s : State) (n : Byte) (fault : Bool)
      (latched : fault = true → s.image.tableFault = true ∨ s.image.reference.isSome = true)
      (kept : s.image.tableFault = true → fault = true) :
      Move s { s with image := { s.image with checks := n, tableFault := fault } }
  /-- An outcome is counted against a target (R80). -/
  | target (s : State) (a : Fin 16) (x y : Target) (attached : s.target a = some x)
      (place : SamePlace x y) (restorer : y.restorer = x.restorer)
      (state : y.state = x.state ∨ y.state = .quarantined) : Move s (s.setTarget a (some y))
  /-- A mark of the Scrub Engine: the stale mark, a requested stop. -/
  | mark (s : State) (x : ScrubEngine) (done : Bool) (state : x.state = s.scrub.state)
      (current : x.current = s.scrub.current) (restore : x.restore = s.scrub.restore)
      (noDone : done = true → s.sections.scrubDone = true) : Move s (s.withEngine x done)
  /-- The Scrub Engine, with no restore and no entry in repair, takes up something else. -/
  | engine (s : State) (x : ScrubEngine) (done : Bool) (noRestore : s.scrub.state ≠ .restore)
      (noRepair : KeysRise s.image.entries → RepairingOk s →
        ∀ e ∈ s.image.entries, e.state ≠ .repairing)
      (report : DoneOk s → done = true → x.state = .held ∨ x.state = .idle) :
      Move s (s.withEngine x done)
  /-- The Scrub Engine takes up a step of a repair of its current entry. -/
  | repair (s : State) (r : Repair) (noRestore : s.scrub.state ≠ .restore)
      (noDone : DoneOk s → s.sections.scrubDone = false) : Move s (s.setRepair r)
  /-- The current command ends with its record. -/
  | finish (s : State) (c : Staged) (g : Progress) (r : Completion)
      (command : s.command = some { staged := c, progress := g }) (noRestore : g.NoRestore)
      (record : r.Answers c) : Move s (s.finish r)
  /-- The current command goes on. -/
  | progress (s : State) (c : Staged) (g g' : Progress)
      (command : s.command = some { staged := c, progress := g }) (noRestore : g.NoRestore)
      (noRestore' : g'.NoRestore) (noProbe : g' ≠ .probe) : Move s (s.setCommand c g')
  /-- An ATTACH begins its probe: the slot is FREE and the place not taken. -/
  | probe (s : State) (c : Staged) (g : Progress)
      (command : s.command = some { staged := c, progress := g }) (noRestore : g.NoRestore)
      (free : s.target (slotOf c.body) = none)
      (place : s.addressTaken (attachPort c.body) (busAddrOf c.body.value) = false) :
      Move s (s.setCommand c .probe)
  /-- The probe of an ATTACH ends DONE: the slot is filled and the command ends. -/
  | filled (s : State) (c : Staged) (r : Completion)
      (command : s.command = some { staged := c, progress := .probe }) (record : r.Answers c) :
      Move s ((s.setTarget (slotOf c.body) (some (newTarget (attachPort c.body)
        (attachWidth c.body) (busAddrOf c.body.value)))).finish r)
  /-- The Scrub Engine claims a target on its read, and its restore begins (R57). -/
  | claimScrub (s : State) (x : Target) (e : ScrubEngine) (p : RestoreProgress)
      (attached : s.target p.aliasNo = some x) (sound : x.state ≠ .quarantined)
      (reading : s.scrub.state = .readWait) (state : e.state = .restore)
      (restore : e.restore = some p) :
      Move s { s.claimTarget p.aliasNo .scrub with scrub := e }
  /-- The executor claims a target, and its restore begins (R65, R66). -/
  | claimExecutor (s : State) (x : Target) (c : Staged) (g : Progress) (p : RestoreProgress)
      (turned : Bool) (command : s.command = some { staged := c, progress := g })
      (noRestore : g.NoRestore) (attached : s.target p.aliasNo = some x)
      (sound : x.state ≠ .quarantined) :
      Move s ((s.claimTarget p.aliasNo .executor).setCommand c (.restore p turned))
  /-- A restore goes on. -/
  | restoreStep (s : State) (eng : Engine) (p p' : RestoreProgress) (h : s.Restores eng p)
      (same : p'.aliasNo = p.aliasNo) : Move s (s.setRestore eng p')
  /-- A restore ends, and the claim with it. -/
  | restoreEnds (s : State) (eng : Engine) (p p' : RestoreProgress) (f : Target → Target)
      (abandoned : Bool) (h : s.Restores eng p) (same : p'.aliasNo = p.aliasNo)
      (claim : ∀ x, s.target p.aliasNo = some x → SamePlace x (f x) ∧ (f x).restorer = none ∧
        (f x).state ≠ .restoring ∧ (x.state = .quarantined → (f x).state = .quarantined)) :
      Move s ((s.modifyTarget p.aliasNo f).endRestore eng p' abandoned)

/-- A run of moves. -/
abbrev Moves : State → State → Prop := Relation.ReflTransGen Move

theorem Move.run {s t : State} (h : Move s t) : Moves s t := .single h

variable {s : State}

/-! ### The shared operations -/

theorem moves_logEntry (k : DriftKind) (e : Entry) (o : Byte) : Moves s (s.logEntry k e o) :=
  (Move.log s ..).run

theorem moves_logAlias (k : DriftKind) (a : Fin 16) : Moves s (s.logAlias k a) := (Move.log s ..).run

theorem moves_logPort (k : DriftKind) (p : PortId) : Moves s (s.logPort k p) := (Move.log s ..).run

theorem moves_countFailure {a : Fin 16} {x : Target} (hx : s.target a = some x) :
    Moves s (s.countFailure a x) := by
  unfold State.countFailure
  dsimp only
  split
  · exact (Move.target s a x { failedOnce x with state := .quarantined } hx ⟨rfl, rfl, rfl⟩ rfl
      (.inr rfl)).run.trans (moves_logAlias _ _)
  · exact (Move.target s a x (failedOnce x) hx ⟨rfl, rfl, rfl⟩ rfl (.inl rfl)).run

/-- An outcome report counts, or leaves the part as it is (R79, R80). -/
theorem moves_report (a : Fin 16) (p : PortId) (b : BitVec 7) (o : BusOutcome) :
    Moves s (s.report a p b o) := by
  unfold State.report
  split
  · exact .refl
  · rename_i x hx
    split
    · split
      · exact (Move.target s a x { x with failures := 0 } hx ⟨rfl, rfl, rfl⟩ rfl (.inl rfl)).run
      · exact .refl
      all_goals exact moves_countFailure hx
    · exact .refl

theorem moves_reportUngranted (a : Fin 16) (p : PortId) (o : BusOutcome) :
    Moves s (s.reportUngranted a p o) := by
  unfold State.reportUngranted
  split
  · exact moves_report ..
  · exact .refl

theorem moves_markStale (k : Key) : Moves s (s.markStale k) := by
  unfold State.markStale
  split
  · exact (Move.mark s { s.scrub with stale := true } s.sections.scrubDone rfl rfl rfl id).run
  · exact .refl

/-! ### Entries -/

/-- A change that moves the state alone, and not to REPAIRING. -/
theorem EntryChange.of_state {k : Key} {f : Entry → Entry} (g : Entry → EntryState)
    (hf : ∀ e, f e = { e with state := g e }) (hg : ∀ e, g e = .repairing → e.state = .repairing) :
    EntryChange s k f where
  bytes e := by rw [hf]; rfl
  key e := by rw [hf]
  cls e := by rw [hf]
  resetValue e := by rw [hf]
  ranges _ e _ _ h := by rw [hf]; exact h
  repairing e h := .inl (hg e (by rw [hf] at h; exact h))

theorem and_mask_outside (v m : Byte) : v &&& m &&& ~~~m = 0 := by
  ext i hi; simp

/-- The taking of a read value: last observed takes it under the mask of the entry read, the counts
stay within their ranges, and the entry does not become REPAIRING. -/
theorem EntryChange.of_read {e : Entry} (he : e ∈ s.image.entries) (v : Byte)
    (st : Entry → EntryState) (attempts drifts : Entry → Nat)
    (hst : ∀ x, st x = .repairing → x.state = .repairing)
    (ha : ∀ x, x.attempts ≤ 7 → attempts x ≤ 7) (hd : ∀ x, x.drifts ≤ 255 → drifts x ≤ 255) :
    EntryChange s e.key fun x =>
      { x with
        state := st x, attempts := attempts x, lastObserved := some (v &&& e.mask)
        drifts := drifts x } where
  bytes _ := rfl
  key _ := rfl
  cls _ := rfl
  resetValue _ := rfl
  repairing x h := .inl (hst x h)
  ranges hs x hx hk h := by
    obtain rfl := hs.unique hx he hk
    refine ⟨ha x h.1, hd x h.2.1, fun m hm => ?_⟩
    obtain rfl := Option.some.inj hm
    exact and_mask_outside v x.mask

theorem moves_takeCompare {e : Entry} (he : e ∈ s.image.entries) (v : Byte) :
    Moves s (s.takeCompare e v) := by
  have clean := (Move.entry s e.key _ (.of_read he v (fun _ => .clean) (fun _ => 0) (·.drifts)
    nofun (fun _ _ => by omega) (fun _ h => h))).run
  have drifted := (Move.entry s e.key _ (.of_read he v (fun _ => .drifted) (fun _ => 0)
    (fun x => min (x.drifts + 1) 255) nofun (fun _ _ => by omega) (fun _ _ => by omega))).run
  have seen := (Move.entry s e.key _ (.of_read he v (·.state) (·.attempts) (·.drifts)
    (fun _ => id) (fun _ => id) (fun _ => id))).run
  unfold State.takeCompare
  dsimp only
  split
  · exact .refl
  · exact .refl
  all_goals split
  all_goals first
    | exact clean
    | exact seen
    | exact drifted.trans (moves_logEntry ..)
    | exact clean.trans (moves_logEntry ..)

theorem moves_takeRepairVerify {e : Entry} (he : e ∈ s.image.entries) (v : Byte) :
    Moves s (s.takeRepairVerify e v) := by
  unfold State.takeRepairVerify
  dsimp only
  split
  · exact .refl
  · split
    · exact (Move.entry s e.key _ (.of_read he v (fun _ => .clean) (fun _ => 0) (·.drifts)
        nofun (fun _ _ => by omega) (fun _ h => h))).run.trans (moves_logEntry ..)
    · split
      · exact (Move.entry s e.key _ (.of_read he v (fun _ => .failed)
          (fun _ => min (e.attempts + 1) 7) (·.drifts)
          nofun (fun _ _ => by omega) (fun _ h => h))).run.trans (moves_logEntry ..)
      · exact (Move.entry s e.key _ (.of_read he v (·.state) (fun _ => min (e.attempts + 1) 7)
          (·.drifts) (fun _ => id) (fun _ _ => by omega) (fun _ h => h))).run

theorem moves_takeApplyVerify {e : Entry} (he : e ∈ s.image.entries) (v : Byte) :
    Moves s (s.takeApplyVerify e v) := by
  unfold State.takeApplyVerify
  dsimp only
  split
  · exact (Move.entry s e.key _ (.of_read he v (·.state) (·.attempts) (·.drifts)
      (fun _ => id) (fun _ => id) (fun _ => id))).run
  · split
    · exact (Move.entry s e.key _ (.of_read he v (fun _ => .clean) (fun _ => 0) (·.drifts)
        nofun (fun _ _ => by omega) (fun _ h => h))).run
    · exact (Move.entry s e.key _ (.of_read he v (fun _ => .drifted) (·.attempts)
        (fun x => min (x.drifts + 1) 255) nofun (fun _ => id) (fun _ _ => by omega))).run.trans
        (moves_logEntry ..)

theorem moves_applyFailed (k : Key) : Moves s (s.applyFailed k) :=
  (Move.entry s k _ (.of_state (fun x => if x.compared then .unseen else x.state)
    (fun e => by split <;> rfl) (fun e h => by split at h <;> simp_all))).run

theorem moves_repairingDrifted (k : Key) : Moves s (s.repairingDrifted k) :=
  (Move.entry s k _ (.of_state (fun x => if x.state = .repairing then .drifted else x.state)
    (fun e => by split <;> rfl) (fun e h => by split at h <;> simp_all))).run

theorem moves_restoreWrote (k : Key) : Moves s (s.restoreWrote k) :=
  (Move.entry s k _ (.of_state (fun x => if x.state = .pending then x.state else .unseen)
    (fun e => by split <;> rfl) (fun e h => by split at h <;> simp_all))).run

end Machine
end Sys2Proof
end

section
/-! PROOF. The restore walk, the repair, the scrub read and the executor's bus work as runs of moves. -/

namespace Sys2Proof
namespace Machine

variable {s : State}

/-! ### Restore progress -/

theorem State.Restores.setRestore {eng : Engine} {p : RestoreProgress} (h : s.Restores eng p)
    (q : RestoreProgress) : (s.setRestore eng q).Restores eng q := by
  cases eng with
  | scrub => exact ⟨h.1, rfl⟩
  | executor =>
    obtain ⟨c, turned, h⟩ := h
    exact ⟨c, turned, by simp [State.setRestore, h]⟩

@[simp] theorem setRestore_image (eng : Engine) (p : RestoreProgress) :
    (s.setRestore eng p).image = s.image := by
  cases eng with
  | scrub => rfl
  | executor => cases h : s.command <;> simp [State.setRestore, h]
@[simp] theorem setRestore_targets (eng : Engine) (p : RestoreProgress) :
    (s.setRestore eng p).targets = s.targets := by
  cases eng with
  | scrub => rfl
  | executor => cases h : s.command <;> simp [State.setRestore, h]
@[simp] theorem setRestore_port0 (eng : Engine) (p : RestoreProgress) :
    (s.setRestore eng p).port0 = s.port0 := by
  cases eng with
  | scrub => rfl
  | executor => cases h : s.command <;> simp [State.setRestore, h]
@[simp] theorem setRestore_port1 (eng : Engine) (p : RestoreProgress) :
    (s.setRestore eng p).port1 = s.port1 := by
  cases eng with
  | scrub => rfl
  | executor => cases h : s.command <;> simp [State.setRestore, h]
@[simp] theorem setRestore_queue (eng : Engine) (p : RestoreProgress) :
    (s.setRestore eng p).queue = s.queue := by
  cases eng with
  | scrub => rfl
  | executor => cases h : s.command <;> simp [State.setRestore, h]
@[simp] theorem setRestore_completions (eng : Engine) (p : RestoreProgress) :
    (s.setRestore eng p).completions = s.completions := by
  cases eng with
  | scrub => rfl
  | executor => cases h : s.command <;> simp [State.setRestore, h]
@[simp] theorem setRestore_log (eng : Engine) (p : RestoreProgress) :
    (s.setRestore eng p).log = s.log := by
  cases eng with
  | scrub => rfl
  | executor => cases h : s.command <;> simp [State.setRestore, h]
@[simp] theorem setRestore_staging (eng : Engine) (p : RestoreProgress) :
    (s.setRestore eng p).staging = s.staging := by
  cases eng with
  | scrub => rfl
  | executor => cases h : s.command <;> simp [State.setRestore, h]
@[simp] theorem setRestore_sections (eng : Engine) (p : RestoreProgress) :
    (s.setRestore eng p).sections = s.sections := by
  cases eng with
  | scrub => rfl
  | executor => cases h : s.command <;> simp [State.setRestore, h]
@[simp] theorem setRestore_settings (eng : Engine) (p : RestoreProgress) :
    (s.setRestore eng p).settings = s.settings := by
  cases eng with
  | scrub => rfl
  | executor => cases h : s.command <;> simp [State.setRestore, h]
@[simp] theorem setRestore_quiet (eng : Engine) (p : RestoreProgress) :
    (s.setRestore eng p).quiet = s.quiet := by
  cases eng with
  | scrub => rfl
  | executor => cases h : s.command <;> simp [State.setRestore, h]
@[simp] theorem setRestore_resetnLow (eng : Engine) (p : RestoreProgress) :
    (s.setRestore eng p).resetnLow = s.resetnLow := by
  cases eng with
  | scrub => rfl
  | executor => cases h : s.command <;> simp [State.setRestore, h]
@[simp] theorem setRestore_choices (eng : Engine) (p : RestoreProgress) :
    (s.setRestore eng p).choices = s.choices := by
  cases eng with
  | scrub => rfl
  | executor => cases h : s.command <;> simp [State.setRestore, h]
@[simp] theorem setRestore_pending (eng : Engine) (p : RestoreProgress) :
    (s.setRestore eng p).pending = s.pending := by
  cases eng with
  | scrub => rfl
  | executor => cases h : s.command <;> simp [State.setRestore, h]

@[simp] theorem setRestore_setRestore (eng : Engine) (p q : RestoreProgress) :
    (s.setRestore eng p).setRestore eng q = s.setRestore eng q := by
  cases eng with
  | scrub => rfl
  | executor => cases h : s.command <;> simp [State.setRestore, h]

/-- The restores of an engine follow from the Scrub Engine and the command. -/
theorem State.Restores.congr {t : State} {eng : Engine} {p : RestoreProgress} (h : s.Restores eng p)
    (scrub : t.scrub.state = s.scrub.state ∧ t.scrub.restore = s.scrub.restore)
    (command : t.command = s.command) : t.Restores eng p := by
  cases eng with
  | scrub => exact ⟨scrub.1.trans h.1, scrub.2.trans h.2⟩
  | executor =>
    obtain ⟨c, turned, h⟩ := h
    exact ⟨c, turned, command.trans h⟩

/-- The end of a restore drops its progress, and its record may be made before the claim ends. -/
theorem endRestore_setRestore (eng : Engine) (p q : RestoreProgress) (f : Target → Target)
    (abandoned : Bool) (k : DriftKind) (a : Fin 16) (w : Option Byte) (o : Option Byte) :
    (((s.setRestore eng p).logDrift k w none none o).modifyTarget a f).endRestore eng q abandoned =
      ((s.modifyTarget a f).logDrift k w none none o).endRestore eng q abandoned := by
  have target : ((s.setRestore eng p).logDrift k w none none o).target a = s.target a :=
    target_congr (by simp) a
  unfold State.modifyTarget
  rw [target]
  cases eng with
  | scrub => cases s.target a <;> rfl
  | executor =>
    generalize s.target a = x
    obtain ⟨_, _, _, command, _, _, _, _, _, _, _, _, _, _, _, _⟩ := s
    cases command <;> cases x <;> rfl

/-- A restore in progress ends: its record, the claim, the engine's own end (R62, R63). -/
theorem moves_restoreEnds {eng : Engine} {p : RestoreProgress}
    (h : (s.setRestore eng p).Restores eng p) (f : Target → Target) (abandoned : Bool)
    (k : DriftKind) (w o : Option Byte)
    (claim : ∀ x, s.target p.aliasNo = some x → SamePlace x (f x) ∧ (f x).restorer = none ∧
      (f x).state ≠ .restoring ∧ (x.state = .quarantined → (f x).state = .quarantined)) :
    Moves (s.setRestore eng p)
      (((s.modifyTarget p.aliasNo f).logDrift k w none none o).endRestore eng p abandoned) := by
  rw [← endRestore_setRestore eng p]
  refine (Move.log _ k w none none o).run.trans (Move.run ?_)
  refine .restoreEnds _ eng p p f abandoned (h.congr ⟨rfl, rfl⟩ rfl) rfl fun x hx => claim x ?_
  rw [← hx]
  exact (target_congr (by simp) _).symm

theorem isQuarantined_eq {a : Fin 16} {x : Target} (hx : s.target a = some x) :
    s.isQuarantined a = (x.state == .quarantined) := by
  simp [State.isQuarantined, hx]

theorem moves_completeRestore {eng : Engine} {p : RestoreProgress}
    (h : (s.setRestore eng p).Restores eng p) (sound : s.isQuarantined p.aliasNo = false) :
    Moves (s.setRestore eng p) (s.completeRestore eng p) :=
  moves_restoreEnds h _ _ _ _ _ fun x hx =>
    ⟨⟨rfl, rfl, rfl⟩, rfl, nofun, fun hq => by simp [isQuarantined_eq hx, hq] at sound⟩

theorem moves_abandonRestore {eng : Engine} {p : RestoreProgress}
    (h : (s.setRestore eng p).Restores eng p) (found : s.isQuarantined p.aliasNo = true) :
    Moves (s.setRestore eng p) (s.abandonRestore eng p) :=
  moves_restoreEnds h _ _ _ _ _ fun x hx =>
    have quarantined : x.state = .quarantined := by simpa [isQuarantined_eq hx] using found
    ⟨⟨rfl, rfl, rfl⟩, rfl, by simp [quarantined], id⟩

theorem moves_beginRestoreStep {eng : Engine} {p : RestoreProgress}
    (h : (s.setRestore eng p).Restores eng p) (phase : RestorePhase) (e : Entry) :
    Moves (s.setRestore eng p) (s.beginRestoreStep eng p phase e).1 := by
  have step := Move.restoreStep _ eng p
    { p with
      phase := phase, base := none, step := some e.key
      stage := if e.mask = 0xFF then .write else .baseRead } h rfl
  rw [setRestore_setRestore] at step
  exact step.run

/-- A restore goes on, from the progress it goes on with (R59, R61 to R63). -/
theorem moves_restoreGoOn {eng : Engine} {p : RestoreProgress}
    (h : (s.setRestore eng p).Restores eng p) :
    Moves (s.setRestore eng p) (s.restoreGoOn eng p).1 := by
  unfold State.restoreGoOn
  split
  · rename_i found; exact moves_abandonRestore h found
  · rename_i sound
    replace sound := Bool.eq_false_iff.2 sound
    split
    · unfold State.restoreNext
      split
      · exact moves_beginRestoreStep h ..
      · unfold State.restoreMarkerPhase
        dsimp only
        split
        · exact moves_beginRestoreStep h ..
        · exact moves_completeRestore h sound
    · exact moves_completeRestore h sound

/-- A restore goes on, from the progress it had. -/
theorem moves_restoreGoOn_of {eng : Engine} {p q : RestoreProgress} (h : s.Restores eng p)
    (same : q.aliasNo = p.aliasNo) : Moves s (s.restoreGoOn eng q).1 :=
  (Move.restoreStep s eng p q h same).run.trans (moves_restoreGoOn (h.setRestore q))

theorem moves_endRestoreStep {eng : Engine} {p : RestoreProgress} (h : s.Restores eng p) (k : Key)
    (o : BusOutcome) : Moves s (s.endRestoreStep eng p k o).1 := by
  unfold State.endRestoreStep
  refine (moves_restoreWrote k).trans ?_
  have h1 : (s.restoreWrote k).Restores eng p := h.congr ⟨rfl, rfl⟩ rfl
  cases eng with
  | scrub => exact moves_restoreGoOn_of h1 rfl
  | executor =>
    refine (moves_markStale k).trans (moves_restoreGoOn_of (p := p) ?_ rfl)
    obtain ⟨c, turned, h1⟩ := h1
    exact ⟨c, turned, by simpa using h1⟩

/-- The outcome of a restore step (R60, R61, R121). -/
theorem moves_restoreOutcome {eng : Engine} {p : RestoreProgress} (h : s.Restores eng p)
    (o : BusOutcome) : Moves s (s.restoreOutcome eng p o).1 := by
  unfold State.restoreOutcome
  split
  · exact .refl
  · split
    · split
      · rename_i found
        simp only [Bool.and_eq_true] at found
        exact (Move.restoreStep s eng p p h rfl).run.trans
          (moves_abandonRestore (h.setRestore p) found.2)
      · exact (Move.restoreStep s eng p _ h (by rfl)).run
    · exact moves_endRestoreStep h ..

theorem moves_skipRestoreStep {p : RestoreProgress} (h : s.Restores .scrub p) (k : Key) :
    Moves s (s.skipRestoreStep p k).1 := moves_restoreGoOn_of h rfl

/-! ### Repair -/

theorem noneRepairing_of_state (h : ¬s.scrub.state.Repairing) (ok : RepairingOk s) :
    ∀ e ∈ s.image.entries, e.state ≠ .repairing :=
  fun e he hr => h (ok e he hr).2

theorem noDone_of_state (held : s.scrub.state ≠ .held) (idle : s.scrub.state ≠ .idle)
    (ok : DoneOk s) : s.sections.scrubDone = false := by
  by_contra h
  rcases ok (by simpa using h) with h | h
  · exact held h
  · exact idle h

/-- The engine starts pacing from work that is no restore and leaves no entry REPAIRING (R31). -/
theorem moves_startPacing (noRestore : s.scrub.state ≠ .restore)
    (noRepair : KeysRise s.image.entries → RepairingOk s →
      ∀ e ∈ s.image.entries, e.state ≠ .repairing)
    (noDone : DoneOk s → s.sections.scrubDone = false) : Moves s s.startPacing :=
  (Move.engine s s.startPacing.scrub s.sections.scrubDone noRestore noRepair
    fun ok h => by simp [noDone ok] at h).run

theorem moves_startPacing_of_readWait (h : s.scrub.state = .readWait) : Moves s s.startPacing :=
  moves_startPacing (by simp [h])
    (fun _ => noneRepairing_of_state (by simp [h, ScrubState.Repairing]))
    (noDone_of_state (by simp [h]) (by simp [h]))

theorem ScrubState.Repairing.ne {x : ScrubState} (h : x.Repairing) :
    x ≠ .restore ∧ x ≠ .held ∧ x ≠ .idle := by
  rcases h with rfl | rfl <;> decide

/-- While a repair runs, pacing starts once the current entry is not REPAIRING. -/
theorem moves_startPacing_of_repairing (h : s.scrub.state.Repairing)
    (noRepair : KeysRise s.image.entries → ∀ e ∈ s.image.entries, e.state = .repairing →
      s.scrub.current ≠ some e.key) : Moves s s.startPacing :=
  moves_startPacing h.ne.1
    (fun hs ok e he hr => noRepair hs e he hr (ok e he hr).1)
    (noDone_of_state h.ne.2.1 h.ne.2.2)

/-- An abandoned repair (R16, R55). -/
theorem moves_abandonRepair (h : s.scrub.state.Repairing) : Moves s s.abandonRepair := by
  unfold State.abandonRepair
  split
  · rename_i k hk
    refine (moves_repairingDrifted k).trans (moves_startPacing_of_repairing h ?_)
    rintro - e he hr hc
    obtain ⟨x, -, rfl⟩ := List.mem_map.1 he
    have key := Option.some.inj (hc.symm.trans hk)
    by_cases hx : x.key = k
    · rw [if_pos hx] at hr; dsimp only at hr; split at hr <;> simp_all
    · rw [if_neg hx] at key; exact hx key
  · rename_i hk
    exact moves_startPacing_of_repairing h fun _ e _ _ hc => by simp [hk] at hc

theorem moves_setRepair (h : s.scrub.state.Repairing) (r : Repair) : Moves s (s.setRepair r) :=
  (Move.repair s r h.ne.1 (noDone_of_state h.ne.2.1 h.ne.2.2)).run

/-- A repair begins for the current entry (R14, R51). -/
theorem moves_beginRepair {e : Entry} (current : s.scrub.current = some e.key)
    (noRestore : s.scrub.state ≠ .restore) (noDone : DoneOk s → s.sections.scrubDone = false)
    (found : Option Byte) : Moves s (s.beginRepair e found).1 := by
  unfold State.beginRepair
  dsimp only
  refine (Move.repair s _ noRestore noDone).run.trans (Move.run (.entry _ e.key _ ?_))
  exact
    { bytes := fun _ => rfl, key := fun _ => rfl, cls := fun _ => rfl
      resetValue := fun _ => rfl, ranges := fun _ _ _ _ h => h
      repairing := fun _ _ => .inr ⟨current, .inl (by dsimp only [State.setRepair]; split_ifs <;> rfl)⟩ }

theorem moves_repairStepOutcome (h : s.scrub.state.Repairing) (k : Key) (r : Repair)
    (o : BusOutcome) : Moves s (s.repairStepOutcome k r o).1 := by
  unfold State.repairStepOutcome
  dsimp only
  split
  · split
    · exact moves_abandonRepair h
    · dsimp only; exact moves_setRepair h _
  · split
    · exact moves_abandonRepair h
    · dsimp only; exact moves_setRepair h _
  · exact moves_abandonRepair h

theorem moves_afterRepairVerify (h : s.scrub.state.Repairing) {k : Key}
    (current : s.scrub.current = some k) (v : Byte) : Moves s (s.afterRepairVerify k v).1 := by
  unfold State.afterRepairVerify
  dsimp only
  split
  · rename_i e he
    split
    · split
      · exact moves_abandonRepair h
      · dsimp only; exact moves_setRepair h _
    · rename_i hr
      refine moves_startPacing_of_repairing h fun hs x hx hxr hc => hr ?_
      have hk : x.key = e.key := by
        rw [(entry_some he).2]; exact (Option.some.inj (current.symm.trans hc)).symm
      rwa [← hs.unique hx (entry_some he).1 hk]
  · rename_i he
    exact moves_startPacing_of_repairing h fun _ x hx _ hc =>
      entry_none he x hx (Option.some.inj (current.symm.trans hc)).symm

theorem moves_repairVerifyOutcome (h : s.scrub.state.Repairing) {k : Key}
    (current : s.scrub.current = some k) (o : BusOutcome) :
    Moves s (s.repairVerifyOutcome k o).1 := by
  unfold State.repairVerifyOutcome
  split
  · split
    · exact moves_abandonRepair h
    · split
      · rename_i e he
        exact (moves_takeRepairVerify (entry_some he).1 _).trans
          (moves_afterRepairVerify (by simpa using h) (by simpa using current) _)
      · exact moves_abandonRepair h
  · exact moves_abandonRepair h

theorem moves_repairOutcome (h : s.scrub.state.Repairing) {k : Key}
    (current : s.scrub.current = some k) (r : Repair) (o : BusOutcome) :
    Moves s (s.repairOutcome k r o).1 := by
  unfold State.repairOutcome
  split
  · exact moves_repairVerifyOutcome h current o
  all_goals exact moves_repairStepOutcome h ..

/-! ### The scrub read -/

theorem moves_hold (h : s.scrub.state = .readWait) : Moves s s.hold :=
  (Move.engine s s.hold.scrub true (by simp [h])
    (fun _ => noneRepairing_of_state (by simp [h, ScrubState.Repairing])) fun _ _ => .inl rfl).run

theorem moves_afterCompare (h : s.scrub.state = .readWait) {k : Key}
    (current : s.scrub.current = some k) (v : Byte) : Moves s (s.afterCompare k v).1 := by
  unfold State.afterCompare
  split
  · rename_i e he
    split
    · exact moves_startPacing_of_readWait h
    · split
      · exact moves_hold h
      · split
        · exact moves_beginRepair (by rw [current, (entry_some he).2]) (by simp [h])
            (noDone_of_state (by simp [h]) (by simp [h])) _
        · exact moves_startPacing_of_readWait h
  · exact moves_startPacing_of_readWait h

theorem isOnline_iff {a : Fin 16} :
    s.isOnline a = true ↔ ∃ x, s.target a = some x ∧ x.state = .online := by
  unfold State.isOnline
  cases s.target a <;> simp

/-- The claim of a detection and its record, in either order. -/
theorem takeDetection_eq (e : Entry) (v : Byte) (eng : Engine) :
    s.takeDetection e v eng =
      ((s.modifyEntry e.key fun x => { x with lastObserved := some (v &&& e.mask) }).logEntry
        .targetReset e (v &&& e.mask)).claimTarget e.key.aliasNo eng := by
  unfold State.takeDetection State.claimTarget State.modifyTarget
  change _ = match s.target e.key.aliasNo with | some t => _ | none => _
  change State.logEntry (match s.target e.key.aliasNo with | some t => _ | none => _) _ _ _ = _
  cases s.target e.key.aliasNo <;> rfl

/-- Last observed takes a masked value, and a TARGET_RESET record is made (R57). -/
theorem moves_detected {e : Entry} (he : e ∈ s.image.entries) (v : Byte) :
    Moves s ((s.modifyEntry e.key fun x => { x with lastObserved := some (v &&& e.mask) }).logEntry
      .targetReset e (v &&& e.mask)) :=
  (Move.entry s e.key _ (.of_read he v (·.state) (·.attempts) (·.drifts)
    (fun _ => id) (fun _ => id) (fun _ => id))).run.trans (moves_logEntry ..)

theorem moves_scrubDetection {e : Entry} (h : s.scrub.state = .readWait)
    (he : e ∈ s.image.entries) (v : Byte) : Moves s (s.scrubDetection e v).1 := by
  unfold State.scrubDetection
  split
  · rename_i online
    obtain ⟨x, hx, hon⟩ := isOnline_iff.1 online
    refine Relation.ReflTransGen.trans ?_ (moves_restoreGoOn (eng := .scrub) ⟨rfl, rfl⟩)
    rw [takeDetection_eq]
    exact (moves_detected he v).trans (Move.claimScrub _ x _ (.start e.key.aliasNo)
      (by exact hx) (by simp [hon]) (by exact h) (by rfl) (by rfl)).run
  · exact moves_startPacing_of_readWait h

theorem moves_scrubReadOutcome (h : s.scrub.state = .readWait) {k : Key}
    (current : s.scrub.current = some k) (o : BusOutcome) :
    Moves s (s.scrubReadOutcome k o).1 := by
  unfold State.scrubReadOutcome
  split
  · split
    · exact moves_startPacing_of_readWait h
    · split
      · rename_i e he
        split
        · exact moves_scrubDetection h (entry_some he).1 _
        · exact (moves_takeCompare (entry_some he).1 _).trans
            (moves_afterCompare (by simpa using h) (by simpa using current) _)
      · exact moves_startPacing_of_readWait h
  · exact moves_startPacing_of_readWait h

/-- An outcome delivered to the Scrub Engine. -/
theorem moves_scrubOutcome (o : BusOutcome) : Moves s (s.scrubOutcome o).1 := by
  unfold State.scrubOutcome
  split
  · rename_i hs hc; exact moves_scrubReadOutcome hs hc o
  · rename_i hs hc _; exact moves_repairOutcome (.inl hs) hc _ o
  · rename_i hs hc _; exact moves_repairOutcome (.inr hs) hc _ o
  · rename_i hs hp; exact moves_restoreOutcome (eng := .scrub) ⟨hs, hp⟩ o
  · exact .refl

/-! ### The executor -/

theorem answers_completionOf (c : Staged) (x : Status) : (completionOf c x).Answers c := ⟨rfl, rfl⟩

theorem moves_probeOutcome {c : Staged} (h : s.command = some { staged := c, progress := .probe })
    (o : BusOutcome) : Moves s (s.probeOutcome c o) := by
  unfold State.probeOutcome
  dsimp only
  split
  · exact (Move.filled s c _ h ⟨rfl, rfl⟩).run
  · exact (Move.finish s c .probe _ h nofun ⟨rfl, rfl⟩).run

theorem moves_directOutcome {c : Staged} (h : s.command = some { staged := c, progress := .direct })
    (o : BusOutcome) : Moves s (s.directOutcome c o) := by
  unfold State.directOutcome
  split <;> exact (Move.finish s c .direct _ h nofun ⟨rfl, rfl⟩).run

theorem answers_entryCompletion (c : Staged) (x : Status) (e : Option Entry) (v : Byte) :
    (entryCompletion c x e v).Answers c := by
  unfold entryCompletion
  cases e <;> exact ⟨rfl, rfl⟩

section
variable {c : Staged} {x : WriteStep} {b : Option Byte}
  (h : s.command = some { staged := c, progress := .apply x b })
include h

theorem moves_applyEndsFailed (st : Status) : Moves s (s.applyEndsFailed c st) :=
  (moves_applyFailed _).trans (Move.finish _ c (.apply x b) _ (by exact h) (by nofun)
    (answers_entryCompletion ..)).run

theorem moves_applyEndsVerified (v : Byte) : Moves s (s.applyEndsVerified c v) := by
  unfold State.applyEndsVerified
  split
  · rename_i e he
    exact (moves_takeApplyVerify (entry_some he).1 v).trans
      (Move.finish _ c (.apply x b) _ (by simpa using h) nofun (answers_entryCompletion ..)).run
  · exact (Move.finish s c _ _ h (by nofun) (answers_entryCompletion ..)).run

theorem moves_applyOutcome (o : BusOutcome) : Moves s (s.applyOutcome c x b o).1 := by
  unfold State.applyOutcome
  dsimp only
  split
  · exact moves_applyEndsVerified h _
  · split
    · exact moves_applyEndsFailed h _
    · exact (Move.progress s c _ _ h (by nofun) (by nofun) (by nofun)).run
  · split
    · exact moves_applyEndsFailed h _
    · exact (Move.progress s c _ _ h (by nofun) (by nofun) (by nofun)).run
  · exact moves_applyEndsFailed h _

end

section
variable {c : Staged} {g : Progress} (h : s.command = some { staged := c, progress := g })
  (hg : g.NoRestore)
include h hg

theorem moves_endVerify (v : VerifyProgress) (st : Status) : Moves s (s.endVerify c v st) :=
  (Move.finish s c g _ h hg ⟨rfl, rfl⟩).run

theorem moves_verifyGoOn (v : VerifyProgress) : Moves s (s.verifyGoOn c v).1 := by
  unfold State.verifyGoOn
  dsimp only
  split
  · exact moves_endVerify h hg ..
  · split
    · exact moves_endVerify h hg ..
    · split
      · exact (Move.progress s c g _ h hg (by nofun) (by nofun)).run
      · exact moves_endVerify h hg ..

theorem moves_verifyDetection (v : VerifyProgress) {e : Entry} (he : e ∈ s.image.entries)
    (value : Byte) : Moves s (s.verifyDetection c v e value).1 := by
  unfold State.verifyDetection
  split
  · rename_i online
    obtain ⟨x, hx, hon⟩ := isOnline_iff.1 online
    refine Relation.ReflTransGen.trans ?_
      (moves_restoreGoOn (eng := .executor) ⟨c, true, rfl⟩)
    rw [takeDetection_eq]
    exact (moves_detected he value).trans (Move.claimExecutor _ x c g (.start e.key.aliasNo)
      true (by exact h) hg (by exact hx) (by simp [hon])).run
  · split
    all_goals exact moves_endVerify h hg ..

theorem moves_verifyOutcome (v : VerifyProgress) (o : BusOutcome) :
    Moves s (s.verifyOutcome c v o).1 := by
  unfold State.verifyOutcome
  split
  · exact .refl
  · split
    · rename_i e he
      split
      · exact moves_verifyDetection h hg _ (entry_some he).1 _
      · exact (moves_takeCompare (entry_some he).1 _).trans
          (moves_verifyGoOn (by simpa using h) hg _)
    · exact moves_endVerify h hg ..
    · exact moves_verifyGoOn h hg _

end

theorem moves_endPortReset (ok : Bool) : Moves s (s.endPortReset ok) := by
  unfold State.endPortReset
  split
  · rename_i c hc
    split
    · rename_i hg
      exact (Move.finish s c.staged .portReset _ (by rw [hc, ← hg]) nofun ⟨rfl, rfl⟩).run
    · exact .refl
  · exact .refl

/-- An outcome delivered to the executor (R121). -/
theorem moves_executorOutcome (o : BusOutcome) : Moves s (s.executorOutcome o).1 := by
  unfold State.executorOutcome
  split
  · exact .refl
  · rename_i c hc
    obtain ⟨c, g⟩ := c
    cases g with
    | probe => exact moves_probeOutcome hc o
    | direct => exact moves_directOutcome hc o
    | apply step base => exact moves_applyOutcome hc o
    | verify v => exact moves_verifyOutcome hc nofun v o
    | restore p turned => exact moves_restoreOutcome (eng := .executor) ⟨c, turned, hc⟩ o
    | portReset => exact .refl

end Machine
end Sys2Proof
end

section
/-! PROOF. The ports, settling and the events of the buses and of the SCRUB section as runs of moves. -/

namespace Sys2Proof
namespace Machine

variable {s : State}

/-! ### Delivery -/

theorem moves_deliver (p : PortId) (f : Flight) (o : BusOutcome) : Moves s (s.deliver p f o).1 := by
  unfold State.deliver
  split
  · exact (moves_report ..).trans (moves_scrubOutcome o)
  · split
    · exact moves_executorOutcome o
    · exact (moves_report ..).trans (moves_executorOutcome o)

theorem moves_outcomeOf (p : PortId) (f : Flight) (o : BusOutcome) :
    Moves s (s.outcomeOf p f o).1 := by
  unfold State.outcomeOf
  split
  · exact .refl
  · exact moves_deliver ..

theorem moves_answerDown (p : PortId) (r : Request) : Moves s (s.answerDown p r).1 := by
  unfold State.answerDown
  split
  · split
    · exact (moves_reportUngranted ..).trans (moves_scrubOutcome _)
    · exact moves_scrubOutcome _
  · split
    · split
      · exact moves_executorOutcome _
      · exact (moves_reportUngranted ..).trans (moves_executorOutcome _)
    · exact .refl
  · exact .refl

/-! ### Grants -/

theorem moves_formedOr {f : Option Flight} {r : Reaction} (h : s.formedOr f = .withdrawn r) :
    Moves s r.1 := by
  unfold State.formedOr at h
  split at h <;> cases h
  exact .refl

theorem moves_formRepair (hs : s.scrub.state.Repairing) {p : PortId} {k : Key} {x : Repair}
    {r : Reaction} (h : s.formRepair p k x = .withdrawn r) : Moves s r.1 := by
  unfold State.formRepair at h
  split at h
  · cases h; exact moves_abandonRepair hs
  · split at h
    · exact moves_formedOr h
    · cases h; exact moves_abandonRepair hs

/-- What a withdrawal of the Scrub Engine does (R38, R52, R60). -/
theorem moves_formScrub {p : PortId} {r : Reaction} (h : s.formScrub p = .withdrawn r) :
    Moves s r.1 := by
  unfold State.formScrub at h
  split at h
  · rename_i hs _
    unfold State.formScrubRead at h
    split at h
    · cases h; exact moves_startPacing_of_readWait hs
    · exact moves_formedOr h
  · rename_i hs _ _; exact moves_formRepair (.inl hs) h
  · rename_i hs _ _; exact moves_formRepair (.inr hs) h
  · rename_i g hs hg
    have restores : s.Restores .scrub g := ⟨hs, hg⟩
    unfold State.formScrubRestore at h
    split at h
    · cases h; exact .refl
    · split at h
      · cases h; exact moves_skipRestoreStep restores _
      · split at h
        · cases h; exact (Move.restoreStep s .scrub g _ restores (by rfl)).run
        · exact moves_formedOr h
  · cases h; exact .refl

theorem moves_launch {p : PortId} (idle : (s.port p).state = .idle) (f : Flight) :
    Moves s (s.launch p f).1 := by
  unfold State.launch
  split
  · exact moves_deliver ..
  · refine (Move.port s p _ fun ok => ?_).run
    exact ⟨by simp, nofun, fun h => by simpa [idle] using ok.recovery h, ok.passedOver⟩

/-- The arbiter chooses the executor's side past a waiting scrub request only while the passed-over
count is below its limit (R99, R100). -/
theorem choose_passedOver {x : Port} {r : Request} (h : x.choose = some r) (hr : r ≠ .scrub)
    (waits : .scrub ∈ x.waiting) : x.passedOver < Config.passedOverLimit := by
  unfold Port.choose at h
  split at h <;> simp_all
  split at h
  · simp_all
  · omega

theorem PortOk.grantExecutor {x : Port} {r : Request} (h : x.choose = some r) (hr : r ≠ .scrub)
    (ok : PortOk x) : PortOk (x.grantExecutor r) := by
  refine ⟨ok.flight, ok.recovering, ok.recovery, ?_⟩
  unfold Port.grantExecutor
  dsimp only
  split
  · rename_i waits; exact choose_passedOver h hr (by simpa using waits)
  · exact ok.passedOver

/-- The rounds begin at any port that is not at work on them. -/
theorem moves_startRounds (p : PortId) (o : RecoveryOrigin) : Moves s (s.startRounds p o) := by
  unfold State.startRounds
  dsimp only
  refine (Move.port s p _ fun ok => ?_).run
  split
  · exact ⟨by simp, nofun, fun _ => .inr rfl, ok.passedOver⟩
  · exact ⟨by simp, fun _ => rfl, fun _ => .inl rfl, ok.passedOver⟩

theorem moves_enqueue (p : PortId) (r : Request) : Moves s (s.enqueue p r) :=
  (Move.port s p _ fun ok => by
    exact ⟨ok.flight, ok.recovering, ok.recovery, ok.passedOver⟩).run

theorem moves_grantScrub {p : PortId} (idle : (s.port p).state = .idle) :
    Moves s (s.grantScrub p).1 := by
  unfold State.grantScrub
  dsimp only
  refine (Move.port s p { s.port p with waiting := (s.port p).waiting.erase .scrub }
    fun ok => ⟨ok.flight, ok.recovering, ok.recovery, ok.passedOver⟩).run.trans ?_
  split
  · rename_i h; exact moves_formScrub h
  · refine Relation.ReflTransGen.trans (Move.port _ p _ fun ok => ?_).run
      (moves_launch (by simpa using idle) _)
    exact ⟨ok.flight, ok.recovering, ok.recovery, Nat.zero_le _⟩

theorem moves_grant {p : PortId} (idle : (s.port p).state = .idle) : Moves s (s.grant p).1 := by
  unfold State.grant
  split
  · exact .refl
  · exact moves_grantScrub idle
  · rename_i h
    exact (Move.port s p _ (.grantExecutor h (by decide))).run.trans (moves_startRounds ..)
  · rename_i h
    refine (Move.port s p _ (.grantExecutor h (by decide))).run.trans ?_
    dsimp only
    split
    · rename_i hw; exact moves_formedOr hw
    · exact moves_launch (by simp [Port.grantExecutor, idle]) _

theorem moves_grants {p : PortId} (idle : (s.port p).state = .idle) : Moves s (s.grants p).1 := by
  unfold State.grants
  dsimp only
  split
  · rename_i h; exact (moves_grant idle).trans (moves_grant h)
  · exact moves_grant idle

/-- A request arrives (R97, R98, R99). -/
theorem moves_arrive (p : PortId) (r : Request) : Moves s (s.arrive p r).1 := by
  unfold State.arrive
  split
  · split
    · exact moves_startRounds ..
    · exact moves_enqueue ..
  · exact moves_answerDown ..
  · rename_i h; exact (moves_enqueue ..).trans (moves_grants (by simp [State.enqueue, h]))
  · exact moves_enqueue ..
  · exact moves_enqueue ..

/-- A port acts on the requests that wait (R97, R99). -/
theorem moves_act (p : PortId) : Moves s (s.act p).1 := by
  unfold State.act
  split
  · rename_i h; exact moves_grants h
  · split
    · refine Relation.ReflTransGen.trans (Move.port s p _ fun ok => ?_).run (moves_arrive ..)
      exact ⟨ok.flight, ok.recovering, ok.recovery, ok.passedOver⟩
    · exact .refl
  · exact .refl
  · exact .refl

/-! ### Settling -/

theorem moves_settled (r : Reaction) : Moves r.1 (settled r) :=
  settled_induction (P := Moves r.1) (fun s n h => h.tail (.outside s s.quiet n s.pending))
    (fun _ p q h => h.trans (moves_arrive p q)) (fun _ p h _ => h.trans (moves_act p)) r .refl

/-! ### Events of the buses -/

theorem moves_portIdle (p : PortId) : Moves s (s.portIdle p) :=
  (Move.port s p _ fun ok => by exact ⟨by simp, nofun, nofun, ok.passedOver⟩).run

theorem moves_endTransaction (p : PortId) (f : Flight) (o : BusOutcome) :
    Moves s (s.endTransaction p f o) :=
  ((moves_outcomeOf p f o).trans (moves_portIdle p)).trans
    (moves_settled ((s.outcomeOf p f o).1.portIdle p, (s.outcomeOf p f o).2))

theorem moves_timeOut (p : PortId) (f : Flight) : Moves s (s.timeOut p f) :=
  ((moves_outcomeOf p f .busTimeout).trans (moves_startRounds p .timeout)).trans
    (moves_settled ((s.outcomeOf p f .busTimeout).1.startRounds p .timeout,
      (s.outcomeOf p f .busTimeout).2))

theorem moves_roundsReported (r : Recovery) (ok : Bool) : Moves s (s.roundsReported r ok) := by
  unfold State.roundsReported
  split
  · exact moves_endPortReset ok
  · exact .refl

theorem moves_roundSucceeds (p : PortId) (r : Recovery) : Moves s (s.roundSucceeds p r) := by
  unfold State.roundSucceeds
  refine Relation.ReflTransGen.trans ?_ (moves_settled _)
  refine Relation.ReflTransGen.trans ?_ (moves_roundsReported r true)
  refine (moves_portIdle p).trans ?_
  split
  · exact moves_logPort ..
  · exact .refl

/-- A recovery round ends (R95, R96, R98). -/
theorem moves_roundEnds (p : PortId) (ok : Bool) : Moves s (s.roundEnds p ok) := by
  unfold State.roundEnds
  split
  · exact .refl
  · rename_i r hr
    have rounds (h : PortOk (s.port p)) := h.recovery (by simp [hr])
    split
    · exact moves_roundSucceeds ..
    · split
      · exact (Move.port s p _ fun h => by
          exact ⟨h.flight, fun _ => rfl, fun _ => rounds h, h.passedOver⟩).run
      · unfold State.roundsFail
        refine Relation.ReflTransGen.trans ?_ (moves_roundsReported r false)
        refine Relation.ReflTransGen.trans ?_ (moves_settled _)
        refine (Move.port s p { s.port p with state := .down, recovery := none } fun h => ?_).run.trans ?_
        · refine ⟨?_, nofun, nofun, h.passedOver⟩
          have : (s.port p).state ≠ .busy := by rcases rounds h with h | h <;> simp [h]
          simpa using mt h.flight.2 this
        · dsimp only
          split
          · exact .refl
          · exact moves_logPort ..

/-! ### Events of the SCRUB section -/

/-- The engine takes up something else, outside a restore and a repair. -/
theorem moves_engine (noRestore : s.scrub.state ≠ .restore) (noRepair : ¬s.scrub.state.Repairing)
    (x : ScrubEngine) (done : Bool)
    (report : DoneOk s → done = true → x.state = .held ∨ x.state = .idle) :
    Moves s (s.withEngine x done) :=
  (Move.engine s x done noRestore (fun _ => noneRepairing_of_state noRepair) report).run

/-- The engine rests between its works, with no report pending. -/
structure State.Resting (s : State) : Prop where
  noRestore : s.scrub.state ≠ .restore
  noRepair : ¬s.scrub.state.Repairing
  noDone : DoneOk s → s.sections.scrubDone = false

theorem State.Resting.of_state (h : s.scrub.state = .pacing ∨ s.scrub.state = .quiet) :
    s.Resting := by
  rcases h with h | h <;>
    exact ⟨by simp [h], by simp [h, ScrubState.Repairing], noDone_of_state (by simp [h]) (by simp [h])⟩

theorem moves_scrubIdle (noRestore : s.scrub.state ≠ .restore)
    (noRepair : ¬s.scrub.state.Repairing) (done : Bool) : Moves s (s.scrubIdle done) :=
  moves_engine noRestore noRepair (s.scrubIdle done).scrub done fun _ _ => .inr rfl

section
variable (rest : s.Resting)
include rest

theorem moves_unreported (x : ScrubEngine) : Moves s { s with scrub := x } :=
  moves_engine rest.noRestore rest.noRepair x s.sections.scrubDone
    fun ok h => by simp [rest.noDone ok] at h

theorem moves_search : Moves s s.search.1 := by
  unfold State.search
  split
  · exact moves_unreported rest _
  · unfold State.endPass
    dsimp only
    split
    · exact moves_unreported rest _
    · exact moves_engine rest.noRestore rest.noRepair _ true fun _ _ => .inr rfl

theorem moves_startPass : Moves s s.startPass.1 := by
  unfold State.startPass
  split
  · exact moves_search rest
  · rename_i ref href
    dsimp only
    split
    · exact (Move.selfCheck s (s.image.checks + 1) s.image.tableFault .inl id).run.trans
        (moves_search ⟨rest.noRestore, rest.noRepair, rest.noDone⟩)
    · unfold State.tableFaultStop
      refine (Move.selfCheck s (s.image.checks + 1) true (fun _ => .inr (by simp [href]))
        fun _ => rfl).run.trans ?_
      refine (Move.log _ .tableFault none none (some (highByte ref))
        (some (highByte s.image.signature))).run.trans ?_
      exact moves_scrubIdle (by exact rest.noRestore) (by exact rest.noRepair) true

theorem moves_proceed : Moves s s.proceed.1 := by
  unfold State.proceed
  split
  · exact moves_startPass rest
  · exact moves_search rest

end

theorem moves_expire (h : s.scrub.state = .pacing) : Moves s s.expire.1 := by
  have rest : s.Resting := .of_state (.inl h)
  unfold State.expire
  split
  · exact moves_scrubIdle rest.noRestore rest.noRepair false
  · split
    · exact moves_unreported rest _
    · exact (moves_unreported rest _).trans (moves_proceed (.of_state (.inl h)))

theorem moves_startScrub (h : s.scrub.state = .idle) : Moves s s.startScrub.1 := by
  have rest : (s.scrubIdle false).Resting :=
    ⟨by simp, by simp [ScrubState.Repairing], fun _ => rfl⟩
  unfold State.startScrub
  refine (moves_scrubIdle (by simp [h]) (by simp [h, ScrubState.Repairing]) false).trans ?_
  dsimp only
  split
  · exact moves_unreported rest _
  · exact moves_startPass rest

theorem moves_pulseHeld (h : s.scrub.state = .held) : Moves s s.pulseHeld.1 := by
  have rest : (s.withEngine s.scrub false).Resting :=
    ⟨by simp [State.withEngine, h], by simp [State.withEngine, h, ScrubState.Repairing],
      fun _ => rfl⟩
  unfold State.pulseHeld
  refine (Move.mark s s.scrub false rfl rfl rfl nofun).run.trans ?_
  dsimp only
  split
  · rename_i e he
    split
    · obtain ⟨k, hk, hke⟩ := Option.bind_eq_some_iff.1 he
      exact moves_beginRepair (by rw [(entry_some hke).2]; exact hk) rest.noRestore rest.noDone _
    · exact moves_unreported rest _
  · exact moves_unreported rest _

end Machine
end Sys2Proof
end

section
/-! PROOF. What one step can do: a reset, a host's access, a run of moves, or a take, which edits the
tables and goes on as a run of moves. What every step keeps follows from these four. -/

namespace Sys2Proof
namespace Machine

variable {s t : State}

/-! ### The edits of a take -/

/-- What a command of a kind does to the tables and the settings at its take, its checks passed. -/
inductive Edit (s : State) (c : Staged) : Option CommandKind → State → Prop
  | unchanged (k : Option CommandKind) : Edit s c k s
  | detach (noEntries : s.entriesOf (slotOf c.body) = []) :
      Edit s c (some .detach) (s.setTarget (slotOf c.body) none)
  | release (x : Target) (attached : s.target (slotOf c.body) = some x)
      (noRestorer : x.restorer = none) (noRepair : s.repairing (slotOf c.body) = false) :
      Edit s c (some .release) (s.releaseTarget (slotOf c.body))
  | define (x : Target) (attached : s.target (slotOf c.body) = some x)
      (passes : s.defineRefusal x c.body = none) (mask : c.body.mask ≠ 0) :
      Edit s c (some .define) (s.insertNew c.body)
  | update (e : Entry) (found : s.entry (keyOf c.body) = some e)
      (sound : breaksMarker (updatedEntry e c.body) = false) :
      Edit s c (some .update) (s.takeUpdate (updatedEntry e c.body))
  | retire (e : Entry) (found : s.entry (keyOf c.body) = some e) :
      Edit s c (some .retire) (s.removeEntry e)
  | set (k : SettingCode) (range : settingInRange k c.body.value = true) :
      Edit s c (some .set) { s with settings := s.settings.put k c.body.value }
  | commit (o : CommitOption) : Edit s c (some .commit)
      { s with image := { s.image with reference := s.committed o, tableFault := false } }

/-- A take leaves an edit of its kind, and then goes on as a run of moves of its command. -/
def Begins (s : State) (c : Staged) (k : Option CommandKind) (r : Reaction) : Prop :=
  ∃ s0, Edit s c k s0 ∧ Moves (s0.setCommand c .direct) r.1

section
variable {c : Staged} {k : Option CommandKind} {s0 : State}

theorem begins_finish (edit : Edit s c k s0) (r : Completion) (hr : r.Answers c) :
    Begins s c k (s0.finish r, []) :=
  ⟨s0, edit, (Move.finish (s0.setCommand c .direct) c .direct r rfl (by nofun) hr).run⟩

theorem begins_refuse (st : Status) : Begins s c k (s.refuse c st) :=
  begins_finish (.unchanged k) _ ⟨rfl, rfl⟩

theorem begins_progress (edit : Edit s c k s0) (g : Progress) (hg : g.NoRestore) (hp : g ≠ .probe)
    (requests : List (PortId × Request)) : Begins s c k (s0.setCommand c g, requests) :=
  ⟨s0, edit, (Move.progress (s0.setCommand c .direct) c .direct g rfl (by nofun) hg hp).run⟩

theorem begins_validated {k : CommandKind} {work : Reaction}
    (h : s.refusal k c.body = none → Begins s c (some k) work) :
    Begins s c (some k) (s.validated k c work) := by
  unfold State.validated
  split
  · exact begins_refuse _
  · rename_i hk; exact h hk

end

/-! ### The takes -/

variable (c : Staged)

theorem begins_attach : Begins s c (some .attach) (s.beginAttach c) := by
  refine begins_validated fun _ => ?_
  split
  · exact begins_refuse _
  · rename_i free
    split
    · exact begins_refuse _
    · rename_i place
      exact ⟨s, .unchanged _, (Move.probe (s.setCommand c .direct) c .direct rfl (by nofun)
        ((target_congr (s := s) rfl _).trans (by simpa using free))
        (by simpa [State.addressTaken] using place)).run⟩

theorem begins_detach : Begins s c (some .detach) (s.beginDetach c) := by
  refine begins_validated fun _ => ?_
  split
  · exact begins_refuse _
  · rename_i h
    exact begins_finish (.detach (by simpa using h)) _ ⟨rfl, rfl⟩

theorem begins_release : Begins s c (some .release) (s.beginRelease c) := by
  refine begins_validated fun _ => ?_
  dsimp only
  split
  · exact begins_refuse _
  · rename_i x hx
    split
    · split
      · exact begins_refuse _
      · rename_i h
        simp only [Bool.or_eq_true, not_or, Bool.not_eq_true, Option.isSome_eq_false_iff,
          Option.isNone_iff_eq_none] at h
        exact begins_finish (.release x hx h.1 h.2) _ ⟨rfl, rfl⟩
    · exact begins_finish (.unchanged _) _ ⟨rfl, rfl⟩

theorem begins_queryTarget : Begins s c (some .queryTarget) (s.beginQueryTarget c) := by
  refine begins_validated fun _ => ?_
  split
  · exact begins_refuse _
  · exact begins_finish (.unchanged _) _ ⟨rfl, rfl⟩

theorem begins_define : Begins s c (some .define) (s.beginDefine c) := by
  refine begins_validated fun passes => ?_
  have mask : c.body.mask ≠ 0 := by
    have := (refusal_none_iff.1 passes).1
    simp only [fieldsInRange, Bool.and_eq_true, bne_iff_ne] at this
    exact this.1.2
  split
  · exact begins_refuse _
  · rename_i x hx
    split
    · exact begins_refuse _
    · rename_i h
      dsimp only
      split
      · exact begins_progress (.define x hx h mask) _ (by nofun) (by nofun) _
      · exact begins_finish (.define x hx h mask) _ (answers_entryCompletion ..)

theorem begins_update : Begins s c (some .update) (s.beginUpdate c) := by
  refine begins_validated fun _ => ?_
  split
  · exact begins_refuse _
  · rename_i e he
    dsimp only
    split
    · exact begins_refuse _
    · rename_i h
      exact begins_progress (.update e he (by simpa using h)) _ (by nofun) (by nofun) _

theorem begins_retire : Begins s c (some .retire) (s.beginRetire c) := by
  refine begins_validated fun _ => ?_
  split
  · exact begins_refuse _
  · rename_i e he
    exact begins_finish (.retire e he) _ ⟨rfl, rfl⟩

theorem begins_queryEntry : Begins s c (some .queryEntry) (s.beginQueryEntry c) := by
  refine begins_validated fun _ => ?_
  split
  · exact begins_finish (.unchanged _) _ ⟨rfl, rfl⟩
  · exact begins_refuse _

theorem begins_read : Begins s c (some .read) (s.beginRead c) := by
  refine begins_validated fun _ => ?_
  split
  · exact begins_refuse _
  · split
    · exact begins_refuse _
    · exact begins_progress (.unchanged _) _ (by nofun) (by nofun) _

theorem begins_write : Begins s c (some .write) (s.beginWrite c) := by
  refine begins_validated fun _ => ?_
  split
  · exact begins_refuse _
  · split
    · exact begins_refuse _
    · split
      · exact begins_refuse _
      · exact begins_progress (.unchanged _) _ (by nofun) (by nofun) _

/-- The claim of an engine does not read the current command. -/
theorem claimTarget_setCommand (a : Fin 16) (eng : Engine) (g g' : Progress) :
    ((s.setCommand c g).claimTarget a eng).setCommand c g' =
      (s.claimTarget a eng).setCommand c g' := by
  unfold State.claimTarget State.modifyTarget
  rw [target_congr (s := s) (by simp)]
  cases s.target a <;> rfl

theorem begins_restore : Begins s c (some .restore) (s.beginRestore c) := by
  refine begins_validated fun passes => ⟨s, .unchanged _, ?_⟩
  obtain ⟨-, attached, sound, -⟩ := refusal_none_iff.1 passes
  simp only [State.attachedOk, needsTarget, Bool.not_true, Bool.false_or,
    Option.isSome_iff_exists] at attached
  obtain ⟨x, hx⟩ := attached
  have hq : x.state ≠ .quarantined := fun h => by
    simp [State.quarantineOk, refusesQuarantined, isQuarantined_eq hx, h] at sound
  refine Relation.ReflTransGen.trans ?_ (moves_restoreGoOn (eng := .executor) ⟨c, false, rfl⟩)
  have := Move.claimExecutor (s.setCommand c .direct) x c .direct (.start (slotOf c.body)) false rfl
    (by nofun) hx hq
  rw [claimTarget_setCommand] at this
  exact this.run

theorem begins_verify : Begins s c (some .verify) (s.beginVerify c) := by
  refine begins_validated fun _ => ⟨s, .unchanged _, ?_⟩
  have h := moves_verifyGoOn (s := s.setCommand c .direct) (c := c) (g := .direct) rfl (by nofun)
    VerifyProgress.start
  exact h

theorem begins_set : Begins s c (some .set) (s.beginSet c) := by
  refine begins_validated fun passes => ?_
  split
  · exact begins_refuse _
  · rename_i k hk
    have range := (refusal_none_iff.1 passes).1
    simp only [fieldsInRange, hk] at range
    exact begins_finish (.set k range) _ ⟨rfl, rfl⟩

theorem begins_commit : Begins s c (some .commit) (s.beginCommit c) := by
  refine begins_validated fun _ => ?_
  split
  · exact begins_refuse _
  · exact begins_finish (.commit _) _ ⟨rfl, rfl⟩

theorem begins_portReset : Begins s c (some .portReset) (s.beginPortReset c) := by
  refine begins_validated fun _ => ?_
  split
  · exact begins_refuse _
  · exact begins_progress (.unchanged _) _ (by nofun) (by nofun) _

/-- What the executor does with a command it takes: an edit of its kind, then moves. -/
theorem begins_begin : Begins s c (kindOf c.kind) (s.begin c) := by
  unfold State.begin
  split <;> rename_i h <;> rw [h]
  · exact begins_refuse _
  · exact begins_attach c
  · exact begins_detach c
  · exact begins_release c
  · exact begins_queryTarget c
  · exact begins_define c
  · exact begins_update c
  · exact begins_retire c
  · exact begins_queryEntry c
  · exact begins_read c
  · exact begins_write c
  · exact begins_restore c
  · exact begins_verify c
  · exact begins_set c
  · exact begins_commit c
  · exact begins_portReset c

variable {c}

/-! ### A host's access -/

/-- What an access of the host, outside the SCRUB section, does. -/
inductive HostAccess : Instr → State → State → Prop
  | ignored (i : Instr) (s : State) : HostAccess i s s
  | rise (s : State) : HostAccess .resetnRise s { s with resetnLow := false }
  | accepted (s : State) (idle : s.sections.issueBusy = false)
      (room : s.queue.length < Config.queueCapacity) : HostAccess .issueStart s { s with
        queue := s.queue ++ [s.staging], sections := { s.sections with issueDone := true } }
  | waits (s : State) (full : ¬s.queue.length < Config.queueCapacity) :
      HostAccess .issueStart s { s with
        sections := { s.sections with issueBusy := true, issueDone := false } }
  | withdrawn (s : State) : HostAccess .issueClear s { s with
      sections := { s.sections with issueBusy := false, issueDone := false } }
  | released (s : State) : HostAccess .resultStart s { s with completions := s.completions.tail }
  | discarded (s : State) : HostAccess .resultClear s { s with completions := [] }
  | logReleased (s : State) : HostAccess .alertStart s
      { s with log := { s.log with records := s.log.records.tail } }
  | logDiscarded (s : State) : HostAccess .alertClear s { s with log := { s.log with records := [] } }
  | disable (s : State) (b : Byte) : HostAccess (.idisWrite b) s
      { s with sections := { s.sections with disable := b.extractLsb' 0 4 } }
  | staged (s : State) (w : StagingByte) (b : Byte) : HostAccess (.stagingWrite w b) s
      { s with staging := stagedPut s.staging w b }

/-! ### One step -/

/-- The part after an Interface Reset. -/
def State.interfaceReset (s : State) : State :=
  { s with
    image := { s.image with entries := s.image.entries.map entryAtInterfaceReset }
    targets := s.targets.map fun t => t.map targetAtInterfaceReset
    scrub := scrubAtInterfaceReset s.scrub
    command := none
    port0 := portAtInterfaceReset s.port0
    port1 := portAtInterfaceReset s.port1
    queue := []
    completions := []
    log := { s.log with records := [] }
    sections := { issueBusy := false, issueDone := false, scrubDone := false, disable := 0 } }

/-- A take of the head of the queue (R117). -/
structure Takes (i : Instr) (s : State) (c : Staged) (t : State) : Prop where
  due : s.canTake = true
  head : s.queue.head? = some c
  result : t = settled (s.dequeue.begin c)
  row : i = .commandTake ∨ i = rowOf c

/-- What carrying out a command can be. -/
inductive Event (i : Instr) (s t : State) : Prop
  | hardwareReset (cause : ResetCause) (h : i = .hardwareReset cause)
  | interfaceReset (code : BitVec 4) (h : i = .interfaceReset code) (result : t = s.interfaceReset)
  | access (h : HostAccess i s t)
  | moves (h : Moves s t)
  | take (c : Staged) (h : Takes i s c t)

/-- A meaning that acts while the part runs, and is ignored otherwise. -/
theorem event_whileRunning {i : Instr} {f : State → State} (h : s.whileRunning f = .next t)
    (running : Event i s (f s)) : Event i s t := by
  unfold State.whileRunning at h
  cases h
  split
  · exact .access (.ignored i s)
  · exact running

theorem event_takeHead {i : Instr} {carry : State → Staged → Reaction}
    (hcarry : ∀ s, carry s c = s.begin c) (row : i = .commandTake ∨ i = rowOf c)
    (h : (s.whileRunning fun s => s.takeHead c carry) = .next t) : Event i s t := by
  refine event_whileRunning h ?_
  unfold State.takeHead
  split
  · rename_i hd; exact .take c ⟨hd.1, hd.2, by rw [hcarry], row⟩
  · exact .access (.ignored i s)

/-- The row of an assigned kind is the take of a head of that kind. -/
theorem event_row {k : CommandKind} {b : CmdBytes} {carry : State → Staged → Reaction}
    (hcarry : ∀ s, carry s (stagedOf k b) = s.begin (stagedOf k b))
    (h : (s.whileRunning fun s => s.takeHead (stagedOf k b) carry) = .next t) :
    Event (rowOf (stagedOf k b)) s t := event_takeHead hcarry (.inr rfl) h

/-- What carrying out any command can be. -/
theorem event_of_exec {i : Instr} (h : exec i s = .next t) : Event i s t := by
  cases i with
  | hardwareReset cause => exact .hardwareReset cause rfl
  | interfaceReset code =>
    simp only [exec, execInterfaceReset] at h
    exact event_whileRunning h (.interfaceReset code rfl rfl)
  | resetnRise => cases h; exact .access (.rise s)
  | flagcmdIgnored | issuePulse | resultPulse | alertPulse | windowWriteIgnored =>
    cases h; exact .access (.ignored _ s)
  | issueStart =>
    simp only [exec, execIssueStart] at h
    refine event_whileRunning h ?_
    split
    · exact .access (.ignored _ s)
    · rename_i idle
      split
      · rename_i room; exact .access (.accepted s (by simpa using idle) room)
      · rename_i full; exact .access (.waits s full)
  | issueClear =>
    simp only [exec, execIssueClear] at h
    exact event_whileRunning h (.access (.withdrawn s))
  | resultStart =>
    simp only [exec, execResultStart] at h
    exact event_whileRunning h (.access (.released s))
  | resultClear =>
    simp only [exec, execResultClear] at h
    exact event_whileRunning h (.access (.discarded s))
  | alertStart =>
    simp only [exec, execAlertStart] at h
    exact event_whileRunning h (.access (.logReleased s))
  | alertClear =>
    simp only [exec, execAlertClear] at h
    exact event_whileRunning h (.access (.logDiscarded s))
  | idisWrite b =>
    simp only [exec, execIdisWrite] at h
    exact event_whileRunning h (.access (.disable s b))
  | stagingWrite w b =>
    simp only [exec, execStagingWrite] at h
    refine event_whileRunning h ?_
    split
    · exact .access (.ignored _ s)
    · exact .access (.staged s w b)
  | scrubStart =>
    simp only [exec, execScrubStart] at h
    refine event_whileRunning h ?_
    split
    · rename_i idle; exact .moves ((moves_startScrub idle).trans (moves_settled _))
    · exact .moves (Move.mark s s.scrub false rfl rfl rfl nofun).run
  | scrubClear =>
    simp only [exec, execScrubClear] at h
    refine event_whileRunning h ?_
    split
    · rename_i hs
      exact .moves (moves_scrubIdle (by simp [hs]) (by simp [hs, ScrubState.Repairing]) false)
    · rename_i hs
      exact .moves (moves_scrubIdle (by simp [hs]) (by simp [hs, ScrubState.Repairing]) false)
    · rename_i hs
      exact .moves (moves_scrubIdle (by simp [hs]) (by simp [hs, ScrubState.Repairing]) false)
    all_goals
      exact .moves (Move.mark s { s.scrub with stopRequested := true } false rfl rfl rfl nofun).run
  | scrubPulse =>
    simp only [exec, execScrubPulse] at h
    refine event_whileRunning h ?_
    split
    · rename_i held; exact .moves ((moves_pulseHeld held).trans (moves_settled _))
    · exact .moves .refl
  | quietAssert => cases h; exact .moves (Move.outside s true s.choices s.pending).run
  | quietRelease =>
    cases h
    refine .moves ((Move.outside s false s.choices s.pending).run.trans ?_)
    split
    · exact .refl
    · dsimp only
      split
      · rename_i quiet
        exact (moves_proceed (s := { s with quiet := false }) (.of_state (.inr quiet))).trans
          (moves_settled _)
      · exact .refl
  | pacingExpiry =>
    simp only [exec, execPacingExpiry] at h
    refine event_whileRunning h ?_
    split
    · rename_i pacing; exact .moves ((moves_expire pacing.1).trans (moves_settled _))
    · exact .moves .refl
  | commandTake =>
    simp only [exec, execCommandTake] at h
    refine event_whileRunning h ?_
    split
    · rename_i c hc
      unfold State.takeHead
      split
      · rename_i hd; exact .take c ⟨hd.1, hd.2, rfl, .inl rfl⟩
      · exact .moves .refl
    · exact .moves .refl
  | unknownKind k b =>
    simp only [exec, execUnknownKind] at h
    refine event_whileRunning h ?_
    split
    · rename_i hk
      unfold State.takeHead
      split
      · rename_i hd
        exact .take { kind := k, body := b }
          ⟨hd.1, hd.2, by simp [State.begin, hk], .inr (by simp [rowOf, hk])⟩
      · exact .moves .refl
    · exact .moves .refl
  | attach b =>
    simp only [exec, execAttach] at h
    exact event_row (k := .attach) (fun _ => rfl) h
  | detach b =>
    simp only [exec, execDetach] at h
    exact event_row (k := .detach) (fun _ => rfl) h
  | release b =>
    simp only [exec, execRelease] at h
    exact event_row (k := .release) (fun _ => rfl) h
  | queryTarget b =>
    simp only [exec, execQueryTarget] at h
    exact event_row (k := .queryTarget) (fun _ => rfl) h
  | define b =>
    simp only [exec, execDefine] at h
    exact event_row (k := .define) (fun _ => rfl) h
  | update b =>
    simp only [exec, execUpdate] at h
    exact event_row (k := .update) (fun _ => rfl) h
  | retire b =>
    simp only [exec, execRetire] at h
    exact event_row (k := .retire) (fun _ => rfl) h
  | queryEntry b =>
    simp only [exec, execQueryEntry] at h
    exact event_row (k := .queryEntry) (fun _ => rfl) h
  | read b =>
    simp only [exec, execRead] at h
    exact event_row (k := .read) (fun _ => rfl) h
  | write b =>
    simp only [exec, execWrite] at h
    exact event_row (k := .write) (fun _ => rfl) h
  | restore b =>
    simp only [exec, execRestore] at h
    exact event_row (k := .restore) (fun _ => rfl) h
  | verify b =>
    simp only [exec, execVerify] at h
    exact event_row (k := .verify) (fun _ => rfl) h
  | set b =>
    simp only [exec, execSet] at h
    exact event_row (k := .set) (fun _ => rfl) h
  | commit b =>
    simp only [exec, execCommit] at h
    exact event_row (k := .commit) (fun _ => rfl) h
  | portReset b =>
    simp only [exec, execPortReset] at h
    exact event_row (k := .portReset) (fun _ => rfl) h
  | startCheckLinesHigh p =>
    simp only [exec, execStartCheckLinesHigh] at h
    refine event_whileRunning h ?_
    split
    · rename_i f hf
      refine .moves (Move.port s p _ fun ok => ?_).run
      exact ⟨by simpa [hf] using ok.flight, ok.recovering, ok.recovery, ok.passedOver⟩
    · exact .moves .refl
  | startCheckTimeout p =>
    simp only [exec, execStartCheckTimeout] at h
    refine event_whileRunning h ?_
    split
    · split
      · exact .moves (moves_timeOut ..)
      · exact .moves .refl
    · exact .moves .refl
  | stretchTimeout p =>
    simp only [exec, execStretchTimeout] at h
    refine event_whileRunning h ?_
    split
    · exact .moves (moves_timeOut ..)
    · exact .moves .refl
  | transactionEnd p refused received =>
    simp only [exec, execTransactionEnd] at h
    refine event_whileRunning h ?_
    split
    · split
      · exact .moves (moves_endTransaction ..)
      · exact .moves .refl
    · exact .moves .refl
  | recoveryRoundEnd p scl sda =>
    simp only [exec, execRecoveryRoundEnd] at h
    exact event_whileRunning h (.moves (moves_roundEnds ..))
  | recoveryStretchTimeout p =>
    simp only [exec, execRecoveryStretchTimeout] at h
    exact event_whileRunning h (.moves (moves_roundEnds ..))

theorem noCommand_of_canTake (h : s.canTake = true) : s.command = none := by
  simp only [State.canTake, Bool.and_eq_true, Option.isNone_iff_eq_none] at h
  exact h.1.1

theorem room_of_canTake (h : s.canTake = true) :
    s.completions.length < Config.completionCapacity := by
  simp only [State.canTake, Bool.and_eq_true, decide_eq_true_eq] at h
  exact h.2

/-- What a run of moves keeps. -/
theorem Moves.keeps {P : State → Prop} (move : ∀ s t, Move s t → P s → P t) (h : Moves s t)
    (hs : P s) : P t := by
  induction h with
  | refl => exact hs
  | tail _ hm ih => exact move _ _ hm ih

/-- What a property needs so that every step keeps it. -/
structure StepKeeps (P : State → Prop) : Prop where
  move : ∀ s t, Move s t → P s → P t
  access : ∀ i s t, HostAccess i s t → P s → P t
  hardwareReset : ∀ cause s t, exec (.hardwareReset cause) s = .next t → P s → P t
  interfaceReset : ∀ s : State, P s → P s.interfaceReset
  take : ∀ s c s0, s.canTake = true → Edit s.dequeue c (kindOf c.kind) s0 → P s →
    P (s0.setCommand c .direct)

theorem StepKeeps.exec {P : State → Prop} (k : StepKeeps P) {i : Instr}
    (h : Machine.exec i s = .next t) (hs : P s) : P t := by
  cases event_of_exec h with
  | hardwareReset cause hi => subst hi; exact k.hardwareReset cause s t h hs
  | interfaceReset code _ result => exact result ▸ k.interfaceReset s hs
  | access ha => exact k.access i s t ha hs
  | moves hm => exact Moves.keeps k.move hm hs
  | take c ht =>
    obtain ⟨s0, edit, hm⟩ := begins_begin (s := s.dequeue) c
    rw [ht.result]
    exact Moves.keeps k.move (hm.trans (moves_settled _)) (k.take s c s0 ht.due edit hs)

/-- A step carries out the command at the front of the queue, so it keeps what carrying out keeps. -/
theorem StepKeeps.step {P : State → Prop} (k : StepKeeps P) (h : Machine.step s = .next t)
    (hs : P s) : P t := by
  unfold Machine.step at h
  split at h
  · cases h; exact hs
  · exact k.exec h (k.move _ _ (.outside s s.quiet s.choices _) hs)

end Machine
end Sys2Proof
end

section
/-! PROOF. What a move, an access and an edit leave alone, and the invariants of the Image Table, the
host's side and the ports (O50 to O53). -/

namespace Sys2Proof
namespace Machine

variable {s t : State}

/-! ### What the end of a restore leaves alone -/

@[simp] theorem endRestore_image (eng : Engine) (p : RestoreProgress) (b : Bool) :
    (s.endRestore eng p b).image = s.image := by
  cases eng with
  | scrub => rfl
  | executor => cases h : s.command <;> simp [State.endRestore, State.endExecutorRestore, h]
@[simp] theorem endRestore_targets (eng : Engine) (p : RestoreProgress) (b : Bool) :
    (s.endRestore eng p b).targets = s.targets := by
  cases eng with
  | scrub => rfl
  | executor => cases h : s.command <;> simp [State.endRestore, State.endExecutorRestore, h]
@[simp] theorem endRestore_port0 (eng : Engine) (p : RestoreProgress) (b : Bool) :
    (s.endRestore eng p b).port0 = s.port0 := by
  cases eng with
  | scrub => rfl
  | executor => cases h : s.command <;> simp [State.endRestore, State.endExecutorRestore, h]
@[simp] theorem endRestore_port1 (eng : Engine) (p : RestoreProgress) (b : Bool) :
    (s.endRestore eng p b).port1 = s.port1 := by
  cases eng with
  | scrub => rfl
  | executor => cases h : s.command <;> simp [State.endRestore, State.endExecutorRestore, h]
@[simp] theorem endRestore_queue (eng : Engine) (p : RestoreProgress) (b : Bool) :
    (s.endRestore eng p b).queue = s.queue := by
  cases eng with
  | scrub => rfl
  | executor => cases h : s.command <;> simp [State.endRestore, State.endExecutorRestore, h]
@[simp] theorem endRestore_log (eng : Engine) (p : RestoreProgress) (b : Bool) :
    (s.endRestore eng p b).log = s.log := by
  cases eng with
  | scrub => rfl
  | executor => cases h : s.command <;> simp [State.endRestore, State.endExecutorRestore, h]
@[simp] theorem endRestore_staging (eng : Engine) (p : RestoreProgress) (b : Bool) :
    (s.endRestore eng p b).staging = s.staging := by
  cases eng with
  | scrub => rfl
  | executor => cases h : s.command <;> simp [State.endRestore, State.endExecutorRestore, h]
@[simp] theorem endRestore_sections (eng : Engine) (p : RestoreProgress) (b : Bool) :
    (s.endRestore eng p b).sections = s.sections := by
  cases eng with
  | scrub => rfl
  | executor => cases h : s.command <;> simp [State.endRestore, State.endExecutorRestore, h]
@[simp] theorem endRestore_settings (eng : Engine) (p : RestoreProgress) (b : Bool) :
    (s.endRestore eng p b).settings = s.settings := by
  cases eng with
  | scrub => rfl
  | executor => cases h : s.command <;> simp [State.endRestore, State.endExecutorRestore, h]
@[simp] theorem endRestore_quiet (eng : Engine) (p : RestoreProgress) (b : Bool) :
    (s.endRestore eng p b).quiet = s.quiet := by
  cases eng with
  | scrub => rfl
  | executor => cases h : s.command <;> simp [State.endRestore, State.endExecutorRestore, h]
@[simp] theorem endRestore_resetnLow (eng : Engine) (p : RestoreProgress) (b : Bool) :
    (s.endRestore eng p b).resetnLow = s.resetnLow := by
  cases eng with
  | scrub => rfl
  | executor => cases h : s.command <;> simp [State.endRestore, State.endExecutorRestore, h]
@[simp] theorem endRestore_choices (eng : Engine) (p : RestoreProgress) (b : Bool) :
    (s.endRestore eng p b).choices = s.choices := by
  cases eng with
  | scrub => rfl
  | executor => cases h : s.command <;> simp [State.endRestore, State.endExecutorRestore, h]
@[simp] theorem endRestore_pending (eng : Engine) (p : RestoreProgress) (b : Bool) :
    (s.endRestore eng p b).pending = s.pending := by
  cases eng with
  | scrub => rfl
  | executor => cases h : s.command <;> simp [State.endRestore, State.endExecutorRestore, h]

/-- A restore of the executor leaves the Scrub Engine alone. -/
@[simp] theorem setRestore_executor_scrub (p : RestoreProgress) :
    (s.setRestore .executor p).scrub = s.scrub := by
  cases h : s.command <;> simp [State.setRestore, h]
@[simp] theorem endRestore_executor_scrub (p : RestoreProgress) (b : Bool) :
    (s.endRestore .executor p b).scrub = s.scrub := by
  cases h : s.command <;> simp [State.endRestore, State.endExecutorRestore, h]

/-! ### What a move leaves alone -/

/-- The host's side of the part: what no move touches. -/
structure SameHostSide (s t : State) : Prop where
  queue : t.queue = s.queue
  staging : t.staging = s.staging
  settings : t.settings = s.settings
  disable : t.sections.disable = s.sections.disable
  issueBusy : t.sections.issueBusy = s.sections.issueBusy
  issueDone : t.sections.issueDone = s.sections.issueDone
  reference : t.image.reference = s.image.reference
  signature : t.image.signature = s.image.signature
  fault : s.image.tableFault = true → t.image.tableFault = true

theorem SameHostSide.trans {u : State} (h : SameHostSide s t) (k : SameHostSide t u) :
    SameHostSide s u :=
  ⟨k.queue.trans h.queue, k.staging.trans h.staging, k.settings.trans h.settings,
    k.disable.trans h.disable, k.issueBusy.trans h.issueBusy, k.issueDone.trans h.issueDone,
    k.reference.trans h.reference, k.signature.trans h.signature, fun f => k.fault (h.fault f)⟩

theorem Move.hostSide (h : Move s t) : SameHostSide s t := by
  cases h with
  | selfCheck n fault latched kept => exact ⟨rfl, rfl, rfl, rfl, rfl, rfl, rfl, rfl, kept⟩
  | outside | entry | mark | engine | repair | log | target | finish | progress | probe | filled =>
    exact ⟨rfl, rfl, rfl, rfl, rfl, rfl, rfl, rfl, id⟩
  | port | claimScrub | claimExecutor | restoreStep | restoreEnds =>
    constructor <;> simp

theorem Moves.hostSide (h : Moves s t) : SameHostSide s t :=
  Moves.keeps (P := SameHostSide s) (fun _ _ m k => k.trans m.hostSide) h
    ⟨rfl, rfl, rfl, rfl, rfl, rfl, rfl, rfl, id⟩

/-- A move leaves the entries alone, or changes what the part knows of one. -/
theorem Move.entries (h : Move s t) :
    t.image.entries = s.image.entries ∨ ∃ k f, EntryChange s k f ∧ t = s.modifyEntry k f := by
  cases h with
  | entry k f hf => exact .inr ⟨k, f, hf, rfl⟩
  | selfCheck | outside | mark | engine | repair | log | target | finish | progress | probe
  | filled => exact .inl rfl
  | port | claimScrub | claimExecutor | restoreStep | restoreEnds => left; simp

theorem modifyTarget_some {a : Fin 16} {x : Target} (h : s.target a = some x)
    (f : Target → Target) : s.modifyTarget a f = s.setTarget a (some (f x)) := by
  unfold State.modifyTarget; rw [h]

theorem modifyTarget_none {a : Fin 16} (h : s.target a = none) (f : Target → Target) :
    s.modifyTarget a f = s := by
  unfold State.modifyTarget; rw [h]

/-- A move leaves the targets alone, changes the record of one in its place, or fills the slot of a
probe. -/
inductive TargetsMove (s t : State) : Prop
  | same (h : t.targets = s.targets)
  | record (a : Fin 16) (x y : Target) (attached : s.target a = some x) (place : SamePlace x y)
      (quarantined : x.state = .quarantined → y.state = .quarantined)
      (h : t.targets = (s.setTarget a (some y)).targets)
  | filled (c : Staged) (command : s.command = some { staged := c, progress := .probe })
      (ended : t.command = none) (h : t.targets = (s.setTarget (slotOf c.body) (some (newTarget
        (attachPort c.body) (attachWidth c.body) (busAddrOf c.body.value)))).targets)

theorem Move.targets (h : Move s t) : TargetsMove s t := by
  cases h with
  | target a x y attached place restorer state =>
    exact .record a x y attached place (fun hq => state.elim (fun h => h.trans hq) id) rfl
  | filled c r command record => exact .filled c command rfl rfl
  | claimScrub x e p attached sound reading state restore =>
    refine .record p.aliasNo x _ attached ?_ (fun hq => absurd hq sound)
      (by dsimp only [State.claimTarget]; rw [modifyTarget_some attached])
    exact ⟨rfl, rfl, rfl⟩
  | claimExecutor x c g p turned command noRestore attached sound =>
    refine .record p.aliasNo x _ attached ?_ (fun hq => absurd hq sound)
      (by dsimp only [State.claimTarget]; rw [modifyTarget_some attached]; rfl)
    exact ⟨rfl, rfl, rfl⟩
  | restoreEnds eng p p' f abandoned h same claim =>
    cases hx : s.target p.aliasNo with
    | none => exact .same (by simp [modifyTarget_none hx])
    | some x =>
      obtain ⟨place, -, -, quarantined⟩ := claim x hx
      exact .record p.aliasNo x (f x) hx place quarantined (by simp [modifyTarget_some hx])
  | selfCheck | outside | entry | mark | engine | repair | log | finish | progress | probe =>
    exact .same rfl
  | port | restoreStep => exact .same (by simp)

/-- A move leaves the current command, ends it with its record, or moves it on. -/
inductive CommandMove (s t : State) : Prop
  | same (command : t.command = s.command) (completions : t.completions = s.completions)
  | ended (c : Staged) (g : Progress) (r : Completion)
      (command : s.command = some { staged := c, progress := g }) (none : t.command = none)
      (completions : t.completions = s.completions ++ [r]) (record : r.Answers c)
  | goesOn (c : Staged) (g g' : Progress)
      (command : s.command = some { staged := c, progress := g })
      (command' : t.command = some { staged := c, progress := g' })
      (completions : t.completions = s.completions)
      (probe : g' = .probe → t.targets = s.targets ∧ s.target (slotOf c.body) = .none ∧
        s.addressTaken (attachPort c.body) (busAddrOf c.body.value) = false)

theorem Move.command (h : Move s t) : CommandMove s t := by
  cases h with
  | finish c g r command noRestore record => exact .ended c g r command rfl rfl record
  | filled c r command record => exact .ended c .probe r command rfl rfl record
  | progress c g g' command noRestore noRestore' noProbe =>
    exact .goesOn c g g' command rfl rfl (fun h => absurd h noProbe)
  | probe c g command noRestore free place =>
    exact .goesOn c g .probe command rfl rfl fun _ => ⟨rfl, free, place⟩
  | claimExecutor x c g p turned command noRestore attached sound =>
    exact .goesOn c g _ command rfl (by simp) (by nofun)
  | restoreStep eng p p' h same =>
    cases eng with
    | scrub => exact .same rfl rfl
    | executor =>
      obtain ⟨c, turned, h⟩ := h
      refine .goesOn c (.restore p turned) (.restore p' turned) h ?_ (by simp) (by nofun)
      simp [State.setRestore, h]
  | restoreEnds eng p p' f abandoned h same claim =>
    cases eng with
    | scrub => exact .same (modifyTarget_command ..) (modifyTarget_completions ..)
    | executor =>
      obtain ⟨c, turned, h⟩ := h
      refine .ended c (.restore p turned) (restoreCompletion c p'
        (if abandoned then .quarantined else completeStatus p' turned)) h ?_ ?_ ⟨rfl, rfl⟩
      all_goals simp [State.endRestore, State.endExecutorRestore, h]
  | selfCheck | outside | entry | mark | engine | repair | log | target => exact .same rfl rfl
  | port | claimScrub => exact .same (by simp) (by simp)

/-! ### What an access and a take leave alone -/

/-- The part behind the host's accesses. -/
structure SameInside (s t : State) : Prop where
  image : t.image = s.image
  targets : t.targets = s.targets
  scrub : t.scrub = s.scrub
  command : t.command = s.command
  port0 : t.port0 = s.port0
  port1 : t.port1 = s.port1
  settings : t.settings = s.settings
  scrubDone : t.sections.scrubDone = s.sections.scrubDone

theorem HostAccess.inside {i : Instr} (h : HostAccess i s t) : SameInside s t := by
  cases h <;> exact ⟨rfl, rfl, rfl, rfl, rfl, rfl, rfl, rfl⟩

@[simp] theorem dequeue_scrubDone (s : State) :
    s.dequeue.sections.scrubDone = s.sections.scrubDone := by
  unfold State.dequeue; split <;> rfl

theorem dequeue_inside (s : State) : SameInside s s.dequeue := by
  constructor <;> simp

/-- What a command leaves alone at its take: the ports, the executor's command, the Scrub Engine's
work, SCRUB.Done, the queues and the log. -/
structure SameUnderEdit (s t : State) : Prop where
  port0 : t.port0 = s.port0
  port1 : t.port1 = s.port1
  command : t.command = s.command
  scrub : t.scrub.state = s.scrub.state ∧ t.scrub.current = s.scrub.current ∧
    t.scrub.restore = s.scrub.restore
  sections : t.sections = s.sections
  queue : t.queue = s.queue
  completions : t.completions = s.completions
  log : t.log = s.log
  staging : t.staging = s.staging

theorem markStale_engine (k : Key) : (s.markStale k).scrub.state = s.scrub.state ∧
    (s.markStale k).scrub.current = s.scrub.current ∧
    (s.markStale k).scrub.restore = s.scrub.restore := by
  unfold State.markStale; split <;> exact ⟨rfl, rfl, rfl⟩

theorem Edit.frame {c : Staged} {k : Option CommandKind} (h : Edit s c k t) :
    SameUnderEdit s t := by
  cases h with
  | unchanged | detach | set | commit => exact ⟨rfl, rfl, rfl, ⟨rfl, rfl, rfl⟩, rfl, rfl, rfl, rfl, rfl⟩
  | release => constructor <;> simp [State.releaseTarget]
  | define =>
    unfold State.insertNew
    dsimp only
    split <;> (constructor <;> simp [markStale_engine])
  | update => constructor <;> simp [State.takeUpdate, markStale_engine]
  | retire =>
    unfold State.removeEntry
    dsimp only
    split <;> (constructor <;> simp [markStale_engine])

end Machine
end Sys2Proof
end

section
/-! PROOF. The Image Table and the entries, the host's side and the ports: what every step keeps
(R1 to R4, R14, R87, R100, R105, R108, R114, R136, R142, R154, R172). -/

namespace Sys2Proof
namespace Machine

variable {s t : State}

/-- Settles O50: the state after hardware reset has no entry, no target, no command and no record. -/
theorem invariantsHoldAtReset : Obligations.InvariantsHoldAtReset := by
  have noTarget : ∀ a, State.reset.target a = none := by decide
  refine ⟨⟨.nil, by decide, nofun, rfl⟩, ⟨by decide, by decide, by decide, nofun⟩, nofun,
    fun _ => .inr rfl, fun k => by cases k <;> decide, fun p => ?_, ?_, ?_, ?_, nofun, nofun, nofun⟩
  · cases p <;> exact ⟨by decide, nofun, nofun, by decide⟩
  · constructor <;> intro a t h <;> simp [noTarget] at h
  · exact ⟨nofun, fun a t _ h => by simp [noTarget] at h, nofun⟩
  · exact ⟨fun a _ x _ h => by simp [noTarget] at h, nofun⟩

/-! ### The Image Table -/

theorem mask_of_bytes {e x : Entry} (h : entryBytes x = entryBytes e) : x.mask = e.mask := by
  simp only [entryBytes, List.cons.injEq] at h
  exact h.2.2.2.2.1

theorem expected_of_bytes {e x : Entry} (h : entryBytes x = entryBytes e) :
    x.expected = e.expected := by
  simp only [entryBytes, List.cons.injEq] at h
  exact h.2.2.2.1

/-- A change of entries one by one that leaves their keys and bytes alone keeps the Image Table. -/
theorem ImageOk.map (h : ImageOk s) (f : Entry → Entry) (key : ∀ e, (f e).key = e.key)
    (bytes : ∀ e, entryBytes (f e) = entryBytes e)
    (entries : t.image.entries = s.image.entries.map f)
    (signature : t.image.signature = s.image.signature) : ImageOk t where
  order := entries ▸ h.order.map f key
  size := by rw [entries, List.length_map]; exact h.size
  masks e he := by
    rw [entries] at he
    obtain ⟨x, hx, rfl⟩ := List.mem_map.1 he
    rw [mask_of_bytes (bytes x)]; exact h.masks x hx
  signature := by
    rw [signature, h.signature, entries]
    exact signatureOf_congr (by simp [bytes])

theorem ImageOk.congr (h : ImageOk s) (entries : t.image.entries = s.image.entries)
    (signature : t.image.signature = s.image.signature) : ImageOk t :=
  h.map id (fun _ => rfl) (fun _ => rfl) (by simpa using entries) signature

/-- What passes the checks of a DEFINE (R126). -/
structure DefinePasses (s : State) (x : Target) (b : CmdBytes) : Prop where
  fits : addrFits x (addrOf b) = true
  fresh : s.entry (keyOf b) = none
  room : s.image.entries.length < Config.imageCapacity
  marker : defineClass b = .marker → x.marker = none
  reset : defineClass b = .marker → sameUnder b.mask b.rstval b.value = false

theorem defineRefusal_none {x : Target} {b : CmdBytes} (h : s.defineRefusal x b = none) :
    DefinePasses s x b := by
  unfold State.defineRefusal at h
  split at h
  · cases h
  · split at h
    · cases h
    · split at h
      · cases h
      · split at h
        · cases h
        · split at h
          · cases h
          · constructor <;> simp_all

theorem newEntry_key (b : CmdBytes) : (newEntry b).key = keyOf b := rfl

theorem insertNew_image (b : CmdBytes) : (s.insertNew b).image =
    { s.image with
      entries := insertEntry (newEntry b) s.image.entries
      signature := signatureOf (insertEntry (newEntry b) s.image.entries) } := by
  unfold State.insertNew
  dsimp only
  split <;> simp [State.changeImage]

theorem takeUpdate_image (e : Entry) : (s.takeUpdate e).image =
    { s.image with
      entries := s.image.entries.map fun x => if x.key = e.key then e else x
      signature := signatureOf (s.image.entries.map fun x => if x.key = e.key then e else x) } := by
  simp [State.takeUpdate, State.changeImage]

theorem removeEntry_image (e : Entry) : (s.removeEntry e).image =
    { s.image with
      entries := s.image.entries.filter fun x => x.key != e.key
      signature := signatureOf (s.image.entries.filter fun x => x.key != e.key) } := by
  unfold State.removeEntry
  dsimp only
  split <;> simp [State.changeImage]

theorem releaseTarget_image (a : Fin 16) : (s.releaseTarget a).image =
    { s.image with
      entries := s.image.entries.map fun e =>
        if e.key.aliasNo = a ∧ e.compared then { e with state := .unseen } else e } := by
  simp [State.releaseTarget]

theorem ImageOk.edit {c : Staged} {k : Option CommandKind} (h : ImageOk s) (edit : Edit s c k t) :
    ImageOk t := by
  cases edit with
  | unchanged => exact h
  | detach | set | commit => exact h.congr rfl rfl
  | release =>
    refine h.map (fun e => if e.key.aliasNo = slotOf c.body ∧ e.compared then
      { e with state := .unseen } else e) (fun e => ?_) (fun e => ?_)
      (by rw [releaseTarget_image]) (by rw [releaseTarget_image])
    all_goals split <;> rfl
  | define x attached passes mask =>
    have ok := defineRefusal_none passes
    constructor
    · rw [insertNew_image]; exact h.order.insert (entry_none ok.fresh)
    · rw [insertNew_image]; simpa using ok.room
    · rw [insertNew_image]
      intro e he
      rcases mem_insertEntry.1 he with rfl | he
      · exact mask
      · exact h.masks e he
    · rw [insertNew_image]
  | update e found sound =>
    constructor
    · rw [takeUpdate_image]
      refine h.order.map _ fun x => ?_
      split
      · rename_i hk; exact hk.symm
      · rfl
    · rw [takeUpdate_image]; simpa using h.size
    · rw [takeUpdate_image]
      intro x hx
      obtain ⟨y, hy, rfl⟩ := List.mem_map.1 hx
      split
      · have := h.masks e (entry_some found).1
        unfold updatedEntry
        dsimp only
        split <;> assumption
      · exact h.masks y hy
    · rw [takeUpdate_image]
  | retire e found =>
    constructor
    · rw [removeEntry_image]; exact h.order.filter _
    · rw [removeEntry_image]; exact (List.length_filter_le ..).trans h.size
    · rw [removeEntry_image]
      intro x hx
      exact h.masks x (List.mem_filter.1 hx).1
    · rw [removeEntry_image]

theorem entryAtInterfaceReset_fields (e : Entry) : (entryAtInterfaceReset e).key = e.key ∧
    entryBytes (entryAtInterfaceReset e) = entryBytes e ∧
    (entryAtInterfaceReset e).cls = e.cls ∧ (entryAtInterfaceReset e).resetValue = e.resetValue ∧
    (entryAtInterfaceReset e).attempts = e.attempts ∧
    (entryAtInterfaceReset e).drifts = e.drifts ∧
    (entryAtInterfaceReset e).lastObserved = e.lastObserved ∧
    (entryAtInterfaceReset e).state ≠ .repairing := by
  unfold entryAtInterfaceReset
  split <;> simp_all [entryBytes]

theorem stepKeeps_imageOk : StepKeeps ImageOk where
  move s t m h := by
    rcases m.entries with he | ⟨k, f, hf, rfl⟩
    · exact h.congr he m.hostSide.signature
    · exact h.map _ (fun e => by split <;> simp [hf.key]) (fun e => by split <;> simp [hf.bytes])
        (modifyEntry_entries ..) rfl
  access i s t ha h := h.congr (by rw [ha.inside.image]) (by rw [ha.inside.image])
  hardwareReset cause s t h _ := by cases h; exact invariantsHoldAtReset.1.congr rfl rfl
  interfaceReset s h := h.map _ (fun e => (entryAtInterfaceReset_fields e).1)
    (fun e => (entryAtInterfaceReset_fields e).2.1) rfl rfl
  take s c s0 _ edit h :=
    ((h.congr (t := s.dequeue) (by simp) (by simp)).edit edit).congr rfl rfl

/-- Settles O51: only the edits of DEFINE, UPDATE and RETIRE move an entry's bytes, and each recomputes
the signature. -/
theorem stepKeepsTheImage : Obligations.StepKeepsTheImage := fun _ _ ok h =>
  stepKeeps_imageOk.step h ok

/-! ### The ports -/

theorem PortsOk.congr (h : PortsOk s) (h0 : t.port0 = s.port0) (h1 : t.port1 = s.port1) :
    PortsOk t := fun p => port_congr h0 h1 p ▸ h p

theorem Move.portsOk (m : Move s t) (h : PortsOk s) : PortsOk t := by
  cases m with
  | port p x ok =>
    intro q
    by_cases e : q = p
    · subst e; simpa using ok (h q)
    · simpa [e] using h q
  | outside | selfCheck | entry | mark | engine | repair | log | target | finish | progress
  | probe | filled | claimScrub | claimExecutor | restoreStep | restoreEnds =>
    exact h.congr (by simp [State.withEngine]) (by simp [State.withEngine])

theorem PortOk.interfaceReset {x : Port} (h : PortOk x) : PortOk (portAtInterfaceReset x) :=
  ⟨by simpa [portAtInterfaceReset] using h.flight,
    by simpa [portAtInterfaceReset] using h.recovering,
    by simpa [portAtInterfaceReset] using h.recovery, Nat.zero_le _⟩

theorem stepKeeps_portsOk : StepKeeps PortsOk where
  move _ _ m h := m.portsOk h
  access _ _ _ ha h := h.congr ha.inside.port0 ha.inside.port1
  hardwareReset cause s t h _ := by
    cases h; exact invariantsHoldAtReset.2.2.2.2.2.1.congr rfl rfl
  interfaceReset s h p := by
    cases p
    · exact (h .p0).interfaceReset
    · exact (h .p1).interfaceReset
  take s c s0 _ edit h := h.congr (by simp [edit.frame.port0]) (by simp [edit.frame.port1])

/-- Settles O53: each move of a port leaves a consistent port, and the arbiter chooses past a waiting
scrub request only below the limit. -/
theorem stepKeepsThePorts : Obligations.StepKeepsThePorts := fun _ _ ok h =>
  stepKeeps_portsOk.step h ok

/-! ### The host's side -/

theorem stepKeeps_doneOk : StepKeeps DoneOk where
  move s t m h := by
    cases m with
    | engine x done noRestore noRepair report => exact fun hd => report h hd
    | repair r noRestore noDone =>
      intro hd
      have := noDone h
      simp_all
    | mark x done state current restore noDone =>
      intro hd
      have := h (noDone hd)
      simpa [State.withEngine, state] using this
    | claimScrub x e p attached sound reading =>
      intro hd
      have := h (by simpa using hd)
      simp [reading] at this
    | restoreStep eng =>
      cases eng with
      | scrub => exact h
      | executor => simpa [DoneOk] using h
    | restoreEnds eng p p' f abandoned hr same claim =>
      intro hd
      have := h (by simpa using hd)
      cases eng with
      | scrub => simp [hr.1] at this
      | executor => simpa using this
    | port | outside | selfCheck | entry | log | target | finish | progress | probe | filled
    | claimExecutor => simpa [DoneOk] using h
  access i s t ha h := by simpa [DoneOk, ha.inside.scrub, ha.inside.scrubDone] using h
  hardwareReset cause s t h _ := by cases h; exact fun _ => .inr rfl
  interfaceReset s _ := nofun
  take s c s0 _ edit h := by
    simpa [DoneOk, edit.frame.scrub, edit.frame.sections] using h

theorem get_put (x : Settings) (j k : SettingCode) (v : Byte) :
    (x.put k v).get j = if j = k then v else x.get j := by
  cases j <;> cases k <;> rfl

/-- Of the edits, SET alone moves the settings. -/
theorem Edit.settings {c : Staged} {k : Option CommandKind} (h : Edit s c k t) :
    t.settings = s.settings ∨ k = some .set ∧ ∃ x, settingInRange x c.body.value = true ∧
      t.settings = s.settings.put x c.body.value := by
  cases h with
  | set x range => exact .inr ⟨rfl, x, range, rfl⟩
  | unchanged | detach | commit => exact .inl rfl
  | release => left; simp [State.releaseTarget]
  | define => left; unfold State.insertNew; dsimp only; split <;> simp
  | update => left; simp [State.takeUpdate]
  | retire => left; unfold State.removeEntry; dsimp only; split <;> simp

theorem stepKeeps_settingsOk : StepKeeps SettingsOk where
  move s t m h := by simpa [SettingsOk, m.hostSide.settings] using h
  access i s t ha h := by simpa [SettingsOk, ha.inside.settings] using h
  hardwareReset cause s t h _ := by cases h; exact invariantsHoldAtReset.2.2.2.2.1
  interfaceReset s h := h
  take s c s0 _ edit h j := by
    rcases edit.settings with hs | ⟨-, x, range, hs⟩
    · simpa [hs] using h j
    · rw [setCommand_settings, hs, get_put]
      split
      · rename_i hj; rw [hj]; exact range
      · simpa using h j

/-- Of the edits, COMMIT alone moves the reference and the latched TABLE_FAULT. -/
theorem Edit.reference {c : Staged} {k : Option CommandKind} (h : Edit s c k t) :
    t.image.reference = s.image.reference ∧ t.image.tableFault = s.image.tableFault ∨
      k = some .commit ∧ t.image.tableFault = false := by
  cases h with
  | commit => exact .inr ⟨rfl, rfl⟩
  | unchanged | detach | set => exact .inl ⟨rfl, rfl⟩
  | release => left; simp [releaseTarget_image]
  | define => left; simp [insertNew_image]
  | update => left; simp [takeUpdate_image]
  | retire => left; simp [removeEntry_image]

theorem stepKeeps_faultOk : StepKeeps FaultOk where
  move s t m h := by
    cases m with
    | selfCheck n fault latched kept => exact fun hf => (latched hf).elim h id
    | outside | entry | mark | engine | repair | log | target | finish | progress | probe
    | filled => exact h
    | port | claimScrub | claimExecutor | restoreStep | restoreEnds => simpa [FaultOk] using h
  access i s t ha h := by simpa [FaultOk, ha.inside.image] using h
  hardwareReset cause s t h _ := by cases h; exact nofun
  interfaceReset s h := h
  take s c s0 _ edit h := by
    rcases edit.reference with ⟨hr, hf⟩ | ⟨-, hf⟩
    · simpa [FaultOk, hr, hf] using h
    · simp [FaultOk, hf]

/-- A move leaves the log alone or creates one record. -/
theorem Move.log_length (m : Move s t) (h : s.log.records.length ≤ Config.logCapacity) :
    t.log.records.length ≤ Config.logCapacity := by
  cases m with
  | log =>
    rw [logDrift_records]
    split
    · simpa using Nat.succ_le_of_lt ‹_›
    · exact h
  | outside | selfCheck | entry | mark | engine | repair | target | finish | progress | probe
  | filled => exact h
  | port | claimScrub | claimExecutor | restoreStep | restoreEnds => simpa using h

theorem reservation_some {c : Command} (h : s.command = some c) : s.reservation = 1 := by
  simp [State.reservation, h]

theorem reservation_none (h : s.command = none) : s.reservation = 0 := by
  simp [State.reservation, h]

/-- The records and the reservation together stay as many (R142, R148). -/
theorem Move.completions_length (m : Move s t) :
    t.completions.length + t.reservation = s.completions.length + s.reservation := by
  cases m.command with
  | same command completions => simp [State.reservation, command, completions]
  | ended c g r command none completions =>
    simp [reservation_some command, reservation_none none, completions]
  | goesOn c g g' command command' completions =>
    simp [reservation_some command, reservation_some command', completions]

theorem QueuesOk.dequeue (h : QueuesOk s) (due : s.canTake = true) : QueuesOk s.dequeue := by
  have full : s.queue ≠ [] := by
    simp only [State.canTake, Bool.and_eq_true, Bool.not_eq_true', List.isEmpty_eq_false_iff] at due
    exact due.1.2
  have pos := List.length_pos_of_ne_nil full
  have room := h.queue
  unfold State.dequeue
  split
  · exact ⟨by simp; omega, h.completions, h.log, nofun⟩
  · exact ⟨by simp; omega, h.completions, h.log, fun hb => absurd hb ‹_›⟩

theorem stepKeeps_queuesOk : StepKeeps QueuesOk where
  move s t m h :=
    ⟨by rw [m.hostSide.queue]; exact h.queue, by rw [m.completions_length]; exact h.completions,
      m.log_length h.log, by rw [m.hostSide.queue, m.hostSide.issueBusy]; exact h.submission⟩
  access i s t ha h := by
    have hc := h.completions
    cases ha with
    | ignored | rise | disable | staged => exact ⟨h.queue, h.completions, h.log, h.submission⟩
    | accepted _ idle room =>
      exact ⟨by simpa using room, h.completions, h.log, fun hb => by simp [idle] at hb⟩
    | waits _ full =>
      exact ⟨h.queue, h.completions, h.log, fun _ => le_antisymm h.queue (not_lt.1 full)⟩
    | withdrawn => exact ⟨h.queue, h.completions, h.log, nofun⟩
    | released =>
      refine ⟨h.queue, ?_, h.log, h.submission⟩
      change s.completions.tail.length + s.reservation ≤ _
      simp; omega
    | discarded =>
      refine ⟨h.queue, ?_, h.log, h.submission⟩
      change 0 + s.reservation ≤ _
      omega
    | logReleased => exact ⟨h.queue, h.completions, by simp; have := h.log; omega, h.submission⟩
    | logDiscarded => exact ⟨h.queue, h.completions, Nat.zero_le _, h.submission⟩
  hardwareReset cause s t h _ := by
    cases h; exact ⟨Nat.zero_le _, Nat.zero_le _, Nat.zero_le _, nofun⟩
  interfaceReset s h := ⟨Nat.zero_le _, Nat.zero_le _, Nat.zero_le _, nofun⟩
  take s c s0 due edit h := by
    have hd := h.dequeue due
    have frame := edit.frame
    refine ⟨?_, ?_, ?_, ?_⟩
    · simpa [frame.queue] using hd.queue
    · have := room_of_canTake due
      rw [reservation_some (setCommand_command ..)]
      simp only [setCommand_completions, frame.completions, dequeue_completions]
      omega
    · simpa [frame.log] using hd.log
    · simpa [frame.queue, frame.sections] using hd.submission

/-- Settles O52: a record takes the place of its reservation, and each of the four follows from the
moves and the edits of SET and COMMIT. -/
theorem stepKeepsTheHostSide : Obligations.StepKeepsTheHostSide := fun _ _ h =>
  ⟨stepKeeps_queuesOk.step h, stepKeeps_doneOk.step h, stepKeeps_settingsOk.step h,
    stepKeeps_faultOk.step h⟩

end Machine
end Sys2Proof
end

section
/-! PROOF. The targets: their claims, their places, their markers and their quarantine, and the one
record of each command (R6, R73, R75, R76, R78, R80, R81, R120, R149). -/

namespace Sys2Proof
namespace Machine

variable {s t : State}

/-! ### Records -/

theorem target_setTarget_eq (a b : Fin 16) (x : Option Target) :
    (s.setTarget a x).target b = if b = a then x else s.target b := by
  split
  · rename_i h; subst h; simp
  · rename_i h; simp [h]

/-- What a command makes of the targets at its take. -/
inductive EditTargets (s : State) (c : Staged) (k : Option CommandKind) (t : State) : Prop
  | same (h : t.targets = s.targets)
  | freed (kind : k = some .detach) (noEntries : s.entriesOf (slotOf c.body) = [])
      (h : t.targets = (s.setTarget (slotOf c.body) none).targets)
  | released (kind : k = some .release) (x : Target) (attached : s.target (slotOf c.body) = some x)
      (noRestorer : x.restorer = none)
      (h : t.targets = (s.setTarget (slotOf c.body)
        (some { x with state := .online, failures := 0 })).targets)
  | marked (x : Target) (m : Option Half) (attached : s.target (slotOf c.body) = some x)
      (h : t.targets = (s.setTarget (slotOf c.body) (some { x with marker := m })).targets)

theorem markStale_modifyTarget_targets (es : List Entry) (a : Fin 16) (f : Target → Target) (k : Key) :
    (((s.changeImage es).modifyTarget a f).markStale k).targets = (s.modifyTarget a f).targets := by
  rw [markStale_targets]
  unfold State.modifyTarget
  rw [target_congr (t := s.changeImage es) (s := s) rfl a]
  cases s.target a <;> rfl

theorem insertNew_targets (b : CmdBytes) : (s.insertNew b).targets =
    if defineClass b = .marker then
      (s.modifyTarget (slotOf b) fun t => { t with marker := some (addrOf b) }).targets
    else s.targets := by
  unfold State.insertNew
  have cls : (newEntry b).cls = defineClass b := rfl
  simp only [cls]
  split
  · exact markStale_modifyTarget_targets ..
  · simp

theorem removeEntry_targets (e : Entry) : (s.removeEntry e).targets =
    if e.cls = .marker then
      (s.modifyTarget e.key.aliasNo fun t => { t with marker := none }).targets
    else s.targets := by
  unfold State.removeEntry
  dsimp only
  split
  · exact markStale_modifyTarget_targets ..
  · simp

theorem releaseTarget_targets (a : Fin 16) : (s.releaseTarget a).targets =
    (s.modifyTarget a fun t => { t with state := .online, failures := 0 }).targets := rfl

theorem Edit.targets {c : Staged} {k : Option CommandKind} (h : Edit s c k t) :
    EditTargets s c k t := by
  cases h with
  | unchanged | set | commit => exact .same rfl
  | detach noEntries => exact .freed rfl noEntries rfl
  | release x attached noRestorer noRepair =>
    exact .released rfl x attached noRestorer
      (by rw [releaseTarget_targets, modifyTarget_some attached])
  | define x attached =>
    by_cases hm : defineClass c.body = .marker
    · exact .marked x (some (addrOf c.body)) attached
        (by rw [insertNew_targets, if_pos hm, modifyTarget_some attached])
    · exact .same (by rw [insertNew_targets, if_neg hm])
  | update => exact .same (by simp [State.takeUpdate])
  | retire e found =>
    have key := (entry_some found).2
    by_cases hm : e.cls = .marker
    · cases hx : s.target (slotOf c.body) with
      | none => exact .same (by
          rw [removeEntry_targets, if_pos hm, modifyTarget_none (by rw [key]; exact hx)])
      | some x => exact .marked x none hx (by
          rw [removeEntry_targets, if_pos hm, key, modifyTarget_some (a := (keyOf c.body).aliasNo) hx]
          rfl)
    · exact .same (by rw [removeEntry_targets, if_neg hm])

/-! ### Claims -/

/-- A record's claim is in order: an ONLINE target has no restorer, a RESTORING one has, and its
restorer has a restore of it in progress (R76, R78). -/
structure Claimed (s : State) (a : Fin 16) (x : Target) : Prop where
  online : x.state = .online → x.restorer = none
  restoring : x.state = .restoring → x.restorer.isSome = true
  restores : ∀ eng, x.restorer = some eng → ∃ p, s.Restores eng p ∧ p.aliasNo = a

theorem restorerOk_iff : RestorerOk s ↔ ∀ a x, s.target a = some x → Claimed s a x := by
  constructor
  · intro h a x hx
    refine ⟨h.online a x hx, h.restoring a x hx, fun eng hr => ?_⟩
    cases eng with
    | scrub =>
      obtain ⟨hs, p, hp, ha⟩ := h.scrub a x hx hr
      exact ⟨p, ⟨hs, hp⟩, ha⟩
    | executor =>
      obtain ⟨c, p, turned, hc, ha⟩ := h.executor a x hx hr
      exact ⟨p, ⟨c, turned, hc⟩, ha⟩
  · intro h
    refine ⟨fun a x hx => (h a x hx).online, fun a x hx => (h a x hx).restoring,
      fun a x hx hr => ?_, fun a x hx hr => ?_⟩
    · obtain ⟨p, hp, ha⟩ := (h a x hx).restores _ hr
      exact ⟨hp.1, p, hp.2, ha⟩
    · obtain ⟨p, ⟨c, turned, hc⟩, ha⟩ := (h a x hx).restores _ hr
      exact ⟨c, p, turned, hc, ha⟩

/-- Each restore in progress has one progress. -/
theorem State.Restores.unique {eng : Engine} {p q : RestoreProgress} (h : s.Restores eng p)
    (k : s.Restores eng q) : p = q := by
  cases eng with
  | scrub => exact Option.some.inj (h.2.symm.trans k.2)
  | executor =>
    obtain ⟨c, turned, h⟩ := h
    obtain ⟨c', turned', k⟩ := k
    simp only [h, Option.some.injEq, Command.mk.injEq, Progress.restore.injEq] at k
    exact k.2.1

theorem not_restores_scrub (h : s.scrub.state ≠ .restore) (p : RestoreProgress) :
    ¬s.Restores .scrub p := fun r => h r.1

theorem not_restores_executor {c : Staged} {g : Progress}
    (h : s.command = some { staged := c, progress := g }) (hg : g.NoRestore) (p : RestoreProgress) :
    ¬s.Restores .executor p := by
  rintro ⟨c', turned, hc⟩
  simp only [h, Option.some.injEq, Command.mk.injEq] at hc
  exact hg p turned hc.2

/-- The restores in progress go on. -/
def RestoresOn (s t : State) : Prop :=
  ∀ eng p, s.Restores eng p → ∃ q, t.Restores eng q ∧ q.aliasNo = p.aliasNo

theorem Claimed.on {a : Fin 16} {x : Target} (h : Claimed s a x) (on : RestoresOn s t) :
    Claimed t a x :=
  ⟨h.online, h.restoring, fun eng hr => by
    obtain ⟨p, hp, ha⟩ := h.restores eng hr
    obtain ⟨q, hq, hqa⟩ := on eng p hp
    exact ⟨q, hq, hqa.trans ha⟩⟩

theorem RestorerOk.on (h : RestorerOk s) (targets : t.targets = s.targets) (on : RestoresOn s t) :
    RestorerOk t :=
  restorerOk_iff.2 fun a x hx =>
    (restorerOk_iff.1 h a x ((target_congr targets a).symm.trans hx)).on on

/-- The record of one slot is replaced by one with its claim in order. -/
theorem RestorerOk.record (h : RestorerOk s) {a : Fin 16} {y : Option Target}
    (targets : t.targets = (s.setTarget a y).targets) (here : ∀ z, y = some z → Claimed t a z)
    (others : ∀ b x, b ≠ a → s.target b = some x → Claimed s b x → Claimed t b x) :
    RestorerOk t := by
  refine restorerOk_iff.2 fun b x hx => ?_
  rw [target_congr targets, target_setTarget_eq] at hx
  split at hx
  · rename_i hb; subst hb; exact here x hx
  · rename_i hb; exact others b x hb hx (restorerOk_iff.1 h b x hx)

theorem restoresOn_of_congr (scrub : t.scrub.state = s.scrub.state ∧ t.scrub.restore = s.scrub.restore)
    (command : t.command = s.command) : RestoresOn s t := fun _ p h =>
  ⟨p, h.congr scrub command, rfl⟩

/-- The executor's command, which is no restore, moves on. -/
theorem restoresOn_of_noRestore {c : Staged} {g : Progress}
    (h : s.command = some { staged := c, progress := g }) (hg : g.NoRestore)
    (scrub : t.scrub = s.scrub) : RestoresOn s t := fun eng p hr => by
  cases eng with
  | scrub => exact ⟨p, ⟨scrub ▸ hr.1, scrub ▸ hr.2⟩, rfl⟩
  | executor => exact absurd hr (not_restores_executor h hg p)

/-- The Scrub Engine, which has no restore in progress, moves on. -/
theorem restoresOn_of_scrub (h : s.scrub.state ≠ .restore) (command : t.command = s.command) :
    RestoresOn s t := fun eng p hr => by
  cases eng with
  | scrub => exact absurd hr (not_restores_scrub h p)
  | executor =>
    obtain ⟨c, turned, hc⟩ := hr
    exact ⟨p, ⟨c, turned, command.trans hc⟩, rfl⟩

theorem Move.restorerOk (m : Move s t) (h : RestorerOk s) : RestorerOk t := by
  cases m with
  | outside | selfCheck | entry | log | port =>
    exact h.on (by simp) (restoresOn_of_congr (by simp) (by simp))
  | mark x done state current restore noDone =>
    exact h.on rfl (restoresOn_of_congr ⟨state, restore⟩ rfl)
  | engine x done noRestore => exact h.on rfl (restoresOn_of_scrub noRestore rfl)
  | repair r noRestore => exact h.on rfl (restoresOn_of_scrub noRestore rfl)
  | finish c g r command noRestore => exact h.on rfl (restoresOn_of_noRestore command noRestore rfl)
  | progress c g g' command noRestore =>
    exact h.on rfl (restoresOn_of_noRestore command noRestore rfl)
  | probe c g command noRestore => exact h.on rfl (restoresOn_of_noRestore command noRestore rfl)
  | target a x y attached place restorer state =>
    have hx := restorerOk_iff.1 h a x attached
    refine h.record rfl ?_ fun b z _ _ hz => hz.on (restoresOn_of_congr ⟨rfl, rfl⟩ rfl)
    rintro z ⟨⟩
    refine ⟨fun ho => ?_, fun ho => ?_, fun eng hr => ?_⟩
    · rcases state with hs | hs
      · rw [restorer]; exact hx.online (hs.symm.trans ho)
      · simp [hs] at ho
    · rcases state with hs | hs
      · rw [restorer]; exact hx.restoring (hs.symm.trans ho)
      · simp [hs] at ho
    · exact (hx.on (restoresOn_of_congr ⟨rfl, rfl⟩ rfl)).restores eng (restorer ▸ hr)
  | filled c r command record =>
    have on := restoresOn_of_noRestore (t := (s.setTarget (slotOf c.body) (some (newTarget
      (attachPort c.body) (attachWidth c.body) (busAddrOf c.body.value)))).finish r)
      command (by nofun) rfl
    refine h.record rfl ?_ fun b z _ _ hz => hz.on on
    rintro z ⟨⟩
    exact ⟨fun _ => rfl, nofun, nofun⟩
  | claimScrub x e p attached sound reading state restore =>
    refine h.record (a := p.aliasNo) (y := some { x with state := .restoring, restorer := some .scrub })
      (by dsimp only [State.claimTarget]; rw [modifyTarget_some attached]) ?_
      fun b z _ _ hz => hz.on (restoresOn_of_scrub (by simp [reading]) (by simp))
    rintro z ⟨⟩
    exact ⟨nofun, fun _ => rfl, fun eng hr => by cases hr; exact ⟨p, ⟨state, restore⟩, rfl⟩⟩
  | claimExecutor x c g p turned command noRestore attached sound =>
    refine h.record (a := p.aliasNo)
      (y := some { x with state := .restoring, restorer := some .executor })
      (by dsimp only [State.claimTarget]; rw [modifyTarget_some attached]; rfl) ?_
      fun b z _ _ hz => hz.on (restoresOn_of_noRestore command noRestore (by simp))
    rintro z ⟨⟩
    exact ⟨nofun, fun _ => rfl, fun eng hr => by cases hr; exact ⟨p, ⟨c, turned, rfl⟩, rfl⟩⟩
  | restoreStep eng p p' hr same =>
    refine h.on (by simp) fun eng' q hq => ?_
    by_cases he : eng' = eng
    · subst he
      exact ⟨p', hr.setRestore p', by rw [same, hr.unique hq]⟩
    · refine ⟨q, ?_, rfl⟩
      cases eng <;> cases eng' <;> first
        | exact absurd rfl he
        | exact hq
        | exact ⟨by simpa using hq.1, by simpa using hq.2⟩
  | restoreEnds eng p p' f abandoned hr same claim =>
    have others : ∀ b z, b ≠ p.aliasNo → Claimed s b z →
        Claimed ((s.modifyTarget p.aliasNo f).endRestore eng p' abandoned) b z := by
      intro b z hb hz
      refine ⟨hz.online, hz.restoring, fun eng' he => ?_⟩
      obtain ⟨q, hq, hqb⟩ := hz.restores eng' he
      have hne : eng' ≠ eng := fun e => hb (by subst e; rw [← hqb, hr.unique hq])
      refine ⟨q, ?_, hqb⟩
      cases eng <;> cases eng' <;> first
        | exact absurd rfl hne
        | exact ⟨by simpa using hq.1, by simpa using hq.2⟩
        | (obtain ⟨c, turned, hc⟩ := hq; exact ⟨c, turned, (modifyTarget_command ..).trans hc⟩)
    cases hx : s.target p.aliasNo with
    | none =>
      refine restorerOk_iff.2 fun b z hz => ?_
      rw [target_congr (s := s) (by simp [modifyTarget_none hx])] at hz
      exact others b z (fun e => by rw [e, hx] at hz; cases hz) (restorerOk_iff.1 h b z hz)
    | some x =>
      obtain ⟨-, restorer, state, -⟩ := claim x hx
      refine h.record (a := p.aliasNo) (y := some (f x)) (by simp [modifyTarget_some hx]) ?_
        fun b z hb _ hz => others b z hb hz
      rintro z ⟨⟩
      exact ⟨fun _ => restorer, fun e => absurd e state, fun eng he => by simp [restorer] at he⟩

theorem interfaceReset_target (a : Fin 16) :
    s.interfaceReset.target a = (s.target a).map targetAtInterfaceReset := by
  simp [State.interfaceReset, State.target]

theorem RestorerOk.edit {c : Staged} {k : Option CommandKind} (h : RestorerOk s)
    (idle : s.command = none) (edit : Edit s c k t) : RestorerOk (t.setCommand c .direct) := by
  have frame := edit.frame
  have on : RestoresOn s (t.setCommand c .direct) := fun eng p hr => by
    cases eng with
    | scrub => exact ⟨p, ⟨frame.scrub.1.trans hr.1, frame.scrub.2.2.trans hr.2⟩, rfl⟩
    | executor => obtain ⟨c', turned, hc⟩ := hr; rw [idle] at hc; cases hc
  cases edit.targets with
  | same ht => exact h.on ht on
  | freed _ _ ht => exact h.record ht nofun fun b z _ _ hz => hz.on on
  | released _ x attached noRestorer ht =>
    refine h.record ht ?_ fun b z _ _ hz => hz.on on
    rintro z ⟨⟩
    exact ⟨fun _ => noRestorer, nofun, fun eng hr => by simp [noRestorer] at hr⟩
  | marked x m attached ht =>
    have hx := (restorerOk_iff.1 h _ x attached).on on
    refine h.record ht ?_ fun b z _ _ hz => hz.on on
    rintro z ⟨⟩
    exact ⟨hx.online, hx.restoring, hx.restores⟩

theorem stepKeeps_restorerOk : StepKeeps RestorerOk where
  move _ _ m h := m.restorerOk h
  access _ _ _ ha h := h.on ha.inside.targets
    (restoresOn_of_congr (by simp [ha.inside.scrub]) ha.inside.command)
  hardwareReset cause s t h _ := by
    cases h
    exact invariantsHoldAtReset.2.2.2.2.2.2.1.on rfl (restoresOn_of_congr ⟨rfl, rfl⟩ rfl)
  interfaceReset s _ := by
    refine restorerOk_iff.2 fun a x hx => ?_
    rw [interfaceReset_target] at hx
    obtain ⟨y, -, rfl⟩ := Option.map_eq_some_iff.1 hx
    refine ⟨fun _ => rfl, fun hr => ?_, nofun⟩
    simp only [targetAtInterfaceReset] at hr
    split at hr
    · cases hr
    · contradiction
  take s c s0 due edit h :=
    (h.on (t := s.dequeue) (by simp) (restoresOn_of_congr (by simp) (by simp))).edit
      (by simpa using noCommand_of_canTake due) edit

/-- Settles O54: a claim is made with the restore that holds it and ends with it. -/
theorem stepKeepsTheClaims : Obligations.StepKeepsTheClaims := fun _ _ ok h =>
  stepKeeps_restorerOk.step h ok

end Machine
end Sys2Proof
end

section
/-! PROOF. The places and the markers of the targets: what every step keeps (R2, R6, R72, R73, R75). -/

namespace Sys2Proof
namespace Machine

variable {s t : State}

/-! ### Places -/

/-- What a target keeps for as long as it is attached, but for its marker's own commands. -/
def Target.place (x : Target) : PortId × BitVec 7 := (x.port, x.busAddr)

theorem exists_mem_targets {P : Option Target → Prop} :
    (∃ x ∈ s.targets, P x) ↔ ∃ a, P (s.target a) := by
  constructor
  · rintro ⟨x, hx, h⟩
    obtain ⟨i, hi, rfl⟩ := Vector.mem_iff_getElem.1 hx
    exact ⟨⟨i, hi⟩, h⟩
  · rintro ⟨a, h⟩
    exact ⟨_, Vector.getElem_mem a.isLt, h⟩

/-- A place is taken when an attached target sits there (R73). -/
theorem addressTaken_iff {p : PortId} {b : BitVec 7} :
    s.addressTaken p b = true ↔ ∃ a x, s.target a = some x ∧ x.place = (p, b) := by
  have : s.addressTaken p b = true ↔
      ∃ t ∈ s.targets, t.any (fun x => x.port == p && x.busAddr == b) = true := by
    rw [State.addressTaken, List.any_eq_true]
    simp only [Vector.mem_toList_iff]
  rw [this, exists_mem_targets]
  simp [Target.place, Option.any_eq_true]

/-- Every record of the one state is at a place of the other's, in the same slot. -/
def PlacesWithin (s t : State) : Prop :=
  ∀ a x, t.target a = some x → ∃ y, s.target a = some y ∧ y.place = x.place

theorem PlacesOk.distinct_place (h : PlacesOk s) {a b : Fin 16} {x y : Target}
    (hx : s.target a = some x) (hy : s.target b = some y) (e : x.place = y.place) : a = b :=
  h.distinct a b x y hx hy (congrArg Prod.fst e) (congrArg Prod.snd e)

theorem PlacesOk.within (h : PlacesOk s) (w : PlacesWithin s t)
    (command : ∀ c, t.command = some { staged := c, progress := .probe } →
      s.addressTaken (attachPort c.body) (busAddrOf c.body.value) = false) : PlacesOk t where
  distinct a b x y hx hy hp hb := by
    obtain ⟨x', hx', hxx⟩ := w a x hx
    obtain ⟨y', hy', hyy⟩ := w b y hy
    exact h.distinct_place hx' hy' (by rw [hxx, hyy]; exact Prod.ext hp hb)
  probing c hc := by
    refine Bool.eq_false_iff.2 fun taken => Bool.eq_false_iff.1 (command c hc) ?_
    obtain ⟨a, x, hx, hp⟩ := addressTaken_iff.1 taken
    obtain ⟨y, hy, hyx⟩ := w a x hx
    exact addressTaken_iff.2 ⟨a, y, hy, hyx.trans hp⟩

theorem placesWithin_of_targets (h : t.targets = s.targets) : PlacesWithin s t :=
  fun a x hx => ⟨x, (target_congr h a).symm.trans hx, rfl⟩

theorem placesWithin_of_record {a : Fin 16} {y : Option Target}
    (h : t.targets = (s.setTarget a y).targets)
    (here : ∀ z, y = some z → ∃ x, s.target a = some x ∧ x.place = z.place) : PlacesWithin s t := by
  intro b z hz
  rw [target_congr h, target_setTarget_eq] at hz
  split at hz
  · rename_i hb; subst hb; exact here z hz
  · exact ⟨z, hz, rfl⟩

/-- A probe that ends DONE fills its slot at the place it probed, which no other target holds. -/
theorem PlacesOk.filled (h : PlacesOk s) {c : Staged}
    (command : s.command = some { staged := c, progress := .probe }) (ended : t.command = none)
    (ht : t.targets = (s.setTarget (slotOf c.body) (some (newTarget (attachPort c.body)
      (attachWidth c.body) (busAddrOf c.body.value)))).targets) : PlacesOk t where
  distinct a b x y hx hy hp hb := by
    have free := h.probing c command
    have other : ∀ a x, s.target a = some x →
        x.place ≠ (attachPort c.body, busAddrOf c.body.value) := fun a x hx e =>
      Bool.eq_false_iff.1 free (addressTaken_iff.2 ⟨a, x, hx, e⟩)
    rw [target_congr ht, target_setTarget_eq] at hx hy
    split at hx <;> split at hy
    · rw [‹a = _›, ‹b = _›]
    · cases hx; exact absurd (Prod.ext hp.symm hb.symm) (other b y hy)
    · cases hy; exact absurd (Prod.ext hp hb) (other a x hx)
    · exact h.distinct a b x y hx hy hp hb
  probing c' hc := by rw [ended] at hc; cases hc

theorem Move.placesOk (m : Move s t) (h : PlacesOk s) : PlacesOk t := by
  have command : (∀ c, t.command = some { staged := c, progress := .probe } →
      s.addressTaken (attachPort c.body) (busAddrOf c.body.value) = false) := by
    intro c hc
    cases m.command with
    | same command => exact h.probing c (command.symm.trans hc)
    | ended _ _ _ _ none => rw [none] at hc; cases hc
    | goesOn c' g g' _ command' _ probe =>
      rw [command'] at hc
      cases hc
      exact (probe rfl).2.2
  cases m.targets with
  | same ht => exact h.within (placesWithin_of_targets ht) command
  | record a x y attached place _ ht =>
    refine h.within (placesWithin_of_record ht ?_) command
    rintro z ⟨⟩
    exact ⟨x, attached, Prod.ext place.port.symm place.busAddr.symm⟩
  | filled c command ended ht => exact h.filled command ended ht

theorem stepKeeps_placesOk : StepKeeps PlacesOk where
  move _ _ m h := m.placesOk h
  access _ _ _ ha h := h.within (placesWithin_of_targets ha.inside.targets)
    fun c hc => h.probing c (ha.inside.command.symm.trans hc)
  hardwareReset cause s t h _ := by
    cases h
    exact invariantsHoldAtReset.2.2.2.2.2.2.2.2.1.within (placesWithin_of_targets rfl) nofun
  interfaceReset s h := by
    refine h.within (fun a x hx => ?_) nofun
    rw [interfaceReset_target] at hx
    obtain ⟨y, hy, rfl⟩ := Option.map_eq_some_iff.1 hx
    exact ⟨y, hy, rfl⟩
  take s c s0 _ edit h := by
    have hd : PlacesOk s.dequeue := h.within (placesWithin_of_targets (by simp))
      fun c hc => h.probing c (by simpa using hc)
    refine hd.within (t := s0.setCommand c .direct) ?_ nofun
    cases edit.targets with
    | same ht => exact placesWithin_of_targets ht
    | freed _ _ ht => exact placesWithin_of_record ht nofun
    | released _ x attached _ ht =>
      refine placesWithin_of_record ht ?_
      rintro z ⟨⟩
      exact ⟨x, attached, rfl⟩
    | marked x m attached ht =>
      refine placesWithin_of_record ht ?_
      rintro z ⟨⟩
      exact ⟨x, attached, rfl⟩

/-- Settles O56: a record is made at the place its probe kept free, and no record moves. -/
theorem stepKeepsThePlaces : Obligations.StepKeepsThePlaces := fun _ _ ok h =>
  stepKeeps_placesOk.step h ok

/-! ### Markers -/

/-- An entry of this key and class stands in the Image Table. -/
def State.HasEntry (s : State) (k : Key) (cls : EntryClass) : Prop :=
  ∃ e ∈ s.image.entries, e.key = k ∧ e.cls = cls

/-- The Image Table and the Target Table agree: `MarkersOk` but for the slot of a probe. -/
structure MarkersAgree (s : State) : Prop where
  attached : ∀ k cls, s.HasEntry k cls → (s.target k.aliasNo).isSome = true
  marked : ∀ a x addr, s.target a = some x →
    (x.marker = some addr ↔ s.HasEntry { aliasNo := a, addr := addr } .marker)

/-- The slot of an ATTACH whose probe is under way is FREE (R72). -/
def ProbeFree (s : State) : Prop :=
  ∀ c, s.command = some c → c.progress = .probe → s.target (slotOf c.staged.body) = none

theorem markersOk_iff : MarkersOk s ↔ MarkersAgree s ∧ ProbeFree s :=
  ⟨fun h => ⟨⟨fun _ _ ⟨e, he, hk, _⟩ => hk ▸ h.attached e he, h.marked⟩, h.probing⟩,
    fun ⟨h, hp⟩ => ⟨fun e he => h.attached e.key e.cls ⟨e, he, rfl, rfl⟩, h.marked, hp⟩⟩

/-- The records of two states have the same marker, slot by slot. -/
def SameMarkers (s t : State) : Prop :=
  ∀ a, (t.target a).map (·.marker) = (s.target a).map (·.marker)

theorem MarkersAgree.congr (h : MarkersAgree s) (markers : SameMarkers s t)
    (entries : ∀ k cls, t.HasEntry k cls ↔ s.HasEntry k cls) : MarkersAgree t where
  attached k cls he := by
    have := h.attached k cls ((entries k cls).1 he)
    have hm := congrArg Option.isSome (markers k.aliasNo)
    simpa [this] using hm
  marked a x addr hx := by
    have hm := markers a
    rw [hx] at hm
    obtain ⟨y, hy, hyx⟩ := Option.map_eq_some_iff.1 hm.symm
    have same : y.marker = x.marker := hyx
    rw [← same, entries]
    exact h.marked a y addr hy

theorem hasEntry_congr (h : t.image.entries = s.image.entries) (k : Key) (cls : EntryClass) :
    t.HasEntry k cls ↔ s.HasEntry k cls := by simp [State.HasEntry, h]

/-- A change of entries one by one that leaves key and class alone. -/
theorem hasEntry_map {f : Entry → Entry} (h : t.image.entries = s.image.entries.map f)
    (key : ∀ e, (f e).key = e.key) (cls : ∀ e, (f e).cls = e.cls) (k : Key) (c : EntryClass) :
    t.HasEntry k c ↔ s.HasEntry k c := by simp [State.HasEntry, h, key, cls]

theorem sameMarkers_of_targets (h : t.targets = s.targets) : SameMarkers s t :=
  fun a => by rw [target_congr h]

theorem sameMarkers_of_record {a : Fin 16} {x y : Target} (attached : s.target a = some x)
    (h : t.targets = (s.setTarget a (some y)).targets) (marker : y.marker = x.marker) :
    SameMarkers s t := fun b => by
  rw [target_congr h, target_setTarget_eq]
  split
  · rename_i hb; subst hb; simp [attached, marker]
  · rfl

theorem Move.hasEntry (m : Move s t) (k : Key) (cls : EntryClass) :
    t.HasEntry k cls ↔ s.HasEntry k cls := by
  rcases m.entries with h | ⟨j, f, hf, rfl⟩
  · exact hasEntry_congr h k cls
  · exact hasEntry_map (modifyEntry_entries ..) (fun e => by split <;> simp [hf.key])
      (fun e => by split <;> simp [hf.cls]) k cls

theorem isNone_of_record {a b : Fin 16} {x y : Target} (attached : s.target a = some x)
    (h : t.targets = (s.setTarget a (some y)).targets) (free : s.target b = none) :
    t.target b = none := by
  rw [target_congr h, target_setTarget_eq, if_neg]
  · exact free
  · rintro rfl; rw [attached] at free; cases free

theorem Move.probeFree (m : Move s t) (h : ProbeFree s) : ProbeFree t := by
  intro c hc hp
  cases m.command with
  | same command =>
    have free := h c (command.symm.trans hc) hp
    cases m.targets with
    | same ht => rw [target_congr ht]; exact free
    | record a x y attached _ _ ht => exact isNone_of_record attached ht free
    | filled _ _ ended => rw [ended] at hc; cases hc
  | ended _ _ _ _ none => rw [none] at hc; cases hc
  | goesOn c' g g' _ command' _ probe =>
    rw [command'] at hc
    cases hc
    obtain ⟨ht, free, -⟩ := probe hp
    rw [target_congr ht]; exact free

theorem Move.markersAgree (m : Move s t) (h : MarkersAgree s) (hp : ProbeFree s) :
    MarkersAgree t := by
  cases m.targets with
  | same ht => exact h.congr (sameMarkers_of_targets ht) m.hasEntry
  | record a x y attached place _ ht =>
    exact h.congr (sameMarkers_of_record attached ht place.marker) m.hasEntry
  | filled c command ended ht =>
    have free := hp _ command rfl
    have noEntry : ∀ k cls, k.aliasNo = slotOf c.body → ¬s.HasEntry k cls := fun k cls hk he => by
      have := h.attached k cls he
      rw [hk, free] at this; cases this
    constructor
    · intro k cls he
      rw [target_congr ht, target_setTarget_eq]
      split
      · rfl
      · exact h.attached k cls ((m.hasEntry k cls).1 he)
    · intro a x addr hx
      rw [target_congr ht, target_setTarget_eq] at hx
      rw [m.hasEntry]
      split at hx
      · rename_i ha
        cases hx
        exact ⟨nofun, fun he => absurd he (noEntry _ _ ha)⟩
      · exact h.marked a x addr hx

/-! ### Markers at a take -/

theorem MarkersAgree.freed (h : MarkersAgree s) {a : Fin 16} (noEntries : s.entriesOf a = []) :
    MarkersAgree (s.setTarget a none) where
  attached k cls he := by
    obtain ⟨e, hmem, rfl, -⟩ := he
    rw [target_setTarget_eq, if_neg]
    · exact h.attached e.key e.cls ⟨e, hmem, rfl, rfl⟩
    · rintro rfl
      have := List.filter_eq_nil_iff.1 noEntries e hmem
      simp at this
  marked b x addr hx := by
    rw [target_setTarget_eq] at hx
    split at hx
    · cases hx
    · exact h.marked b x addr hx

theorem hasEntry_insertNew (b : CmdBytes) (k : Key) (cls : EntryClass) :
    (s.insertNew b).HasEntry k cls ↔ (keyOf b = k ∧ defineClass b = cls) ∨ s.HasEntry k cls := by
  simp only [State.HasEntry, insertNew_image, mem_insertEntry, or_and_right, exists_or,
    exists_eq_left]
  rfl

theorem MarkersAgree.insertNew (h : MarkersAgree s) {b : CmdBytes} {x : Target}
    (attached : s.target (slotOf b) = some x) (unmarked : defineClass b = .marker → x.marker = none) :
    MarkersAgree (s.insertNew b) := by
  by_cases hm : defineClass b = .marker
  · have ht : (s.insertNew b).targets =
        (s.setTarget (slotOf b) (some { x with marker := some (addrOf b) })).targets := by
      rw [insertNew_targets, if_pos hm, modifyTarget_some attached]
    constructor
    · intro k cls he
      rw [target_congr ht, target_setTarget_eq]
      split
      · rfl
      · rename_i hk
        rcases (hasEntry_insertNew b k cls).1 he with ⟨rfl, -⟩ | he
        · exact absurd rfl hk
        · exact h.attached k cls he
    · intro a y addr hy
      rw [target_congr ht, target_setTarget_eq] at hy
      rw [hasEntry_insertNew]
      split at hy
      · rename_i ha
        subst ha
        cases hy
        have none : ¬s.HasEntry { aliasNo := slotOf b, addr := addr } .marker := fun he => by
          have := (h.marked _ x addr attached).2 he
          rw [unmarked hm] at this; cases this
        simp [none, hm, keyOf]
      · rename_i ha
        rw [h.marked a y addr hy]
        have : keyOf b ≠ { aliasNo := a, addr := addr } := fun e => ha (congrArg Key.aliasNo e).symm
        simp [this]
  · have ht : (s.insertNew b).targets = s.targets := by rw [insertNew_targets, if_neg hm]
    constructor
    · intro k cls he
      rw [target_congr ht]
      rcases (hasEntry_insertNew b k cls).1 he with ⟨rfl, -⟩ | he
      · exact Option.isSome_iff_exists.2 ⟨x, attached⟩
      · exact h.attached k cls he
    · intro a y addr hy
      rw [target_congr ht] at hy
      rw [hasEntry_insertNew, h.marked a y addr hy]
      simp [hm]

theorem MarkersAgree.takeUpdate (h : MarkersAgree s) (hs : KeysRise s.image.entries) {e : Entry}
    (he : e ∈ s.image.entries) (b : CmdBytes) : MarkersAgree (s.takeUpdate (updatedEntry e b)) := by
  refine h.congr (sameMarkers_of_targets (by simp [State.takeUpdate])) fun k cls => ?_
  have swap : ∀ y ∈ s.image.entries, (if y.key = e.key then updatedEntry e b else y).key = y.key ∧
      (if y.key = e.key then updatedEntry e b else y).cls = y.cls := by
    intro y hy
    split
    · rename_i hk
      rw [hs.unique hy he hk]
      exact ⟨rfl, rfl⟩
    · exact ⟨rfl, rfl⟩
  simp only [State.HasEntry, takeUpdate_image, List.mem_map, exists_exists_and_eq_and]
  refine exists_congr fun y => and_congr_right fun hy => ?_
  change (if y.key = e.key then updatedEntry e b else y).key = k ∧
    (if y.key = e.key then updatedEntry e b else y).cls = cls ↔ _
  rw [(swap y hy).1, (swap y hy).2]

theorem hasEntry_removeEntry (e : Entry) (k : Key) (cls : EntryClass) :
    (s.removeEntry e).HasEntry k cls ↔ s.HasEntry k cls ∧ k ≠ e.key := by
  simp only [State.HasEntry, removeEntry_image, List.mem_filter, bne_iff_ne]
  constructor
  · rintro ⟨y, ⟨hy, hne⟩, rfl, hc⟩; exact ⟨⟨y, hy, rfl, hc⟩, hne⟩
  · rintro ⟨⟨y, hy, rfl, hc⟩, hne⟩; exact ⟨y, ⟨hy, hne⟩, rfl, hc⟩

theorem MarkersAgree.removeEntry (h : MarkersAgree s) (hs : KeysRise s.image.entries) {e : Entry}
    (he : e ∈ s.image.entries) : MarkersAgree (s.removeEntry e) := by
  obtain ⟨x, attached⟩ := Option.isSome_iff_exists.1 (h.attached e.key e.cls ⟨e, he, rfl, rfl⟩)
  by_cases hm : e.cls = .marker
  · have ht : (s.removeEntry e).targets =
        (s.setTarget e.key.aliasNo (some { x with marker := none })).targets := by
      rw [removeEntry_targets, if_pos hm, modifyTarget_some attached]
    constructor
    · intro k cls hk
      rw [target_congr ht, target_setTarget_eq]
      split
      · rfl
      · exact h.attached k cls ((hasEntry_removeEntry e k cls).1 hk).1
    · intro a y addr hy
      rw [target_congr ht, target_setTarget_eq] at hy
      rw [hasEntry_removeEntry]
      split at hy
      · rename_i ha
        subst ha
        cases hy
        refine ⟨nofun, fun ⟨hy, hne⟩ => absurd ?_ hne⟩
        have h1 := (h.marked _ x addr attached).2 hy
        have h2 := (h.marked _ x e.key.addr attached).2 ⟨e, he, rfl, hm⟩
        rw [h1] at h2
        rw [Option.some.inj h2]
      · rename_i ha
        rw [h.marked a y addr hy]
        exact ⟨fun hm => ⟨hm, fun e => ha (congrArg Key.aliasNo e)⟩, And.left⟩
  · have ht : (s.removeEntry e).targets = s.targets := by rw [removeEntry_targets, if_neg hm]
    constructor
    · intro k cls hk
      rw [target_congr ht]
      exact h.attached k cls ((hasEntry_removeEntry e k cls).1 hk).1
    · intro a y addr hy
      rw [target_congr ht] at hy
      rw [hasEntry_removeEntry, h.marked a y addr hy]
      refine ⟨fun hy => ⟨hy, fun hk => hm ?_⟩, And.left⟩
      obtain ⟨z, hz, hzk, hzc⟩ := hy
      rwa [← hs.unique hz he (hzk.trans hk)]

theorem MarkersAgree.edit {c : Staged} {k : Option CommandKind} (h : MarkersAgree s)
    (hs : KeysRise s.image.entries) (edit : Edit s c k t) : MarkersAgree t := by
  cases edit with
  | unchanged => exact h
  | set | commit => exact h.congr (fun _ => rfl) (hasEntry_congr rfl)
  | detach noEntries => exact h.freed noEntries
  | release x attached =>
    refine h.congr (sameMarkers_of_record attached (y := { x with state := .online, failures := 0 })
      (by rw [releaseTarget_targets, modifyTarget_some attached]) rfl) fun k cls => ?_
    exact hasEntry_map (f := fun e => if e.key.aliasNo = slotOf c.body ∧ e.compared then
      { e with state := .unseen } else e) (by rw [releaseTarget_image])
      (fun e => by split <;> rfl) (fun e => by split <;> rfl) k cls
  | define x attached passes mask =>
    exact h.insertNew attached (defineRefusal_none passes).marker
  | update e found => exact h.takeUpdate hs (entry_some found).1 _
  | retire e found => exact h.removeEntry hs (entry_some found).1

theorem stepKeeps_markersOk : StepKeeps fun s => ImageOk s ∧ MarkersOk s where
  move s t m h := by
    obtain ⟨agree, free⟩ := markersOk_iff.1 h.2
    exact ⟨stepKeeps_imageOk.move s t m h.1,
      markersOk_iff.2 ⟨m.markersAgree agree free, m.probeFree free⟩⟩
  access i s t ha h := by
    obtain ⟨agree, free⟩ := markersOk_iff.1 h.2
    refine ⟨stepKeeps_imageOk.access i s t ha h.1, markersOk_iff.2
      ⟨agree.congr (sameMarkers_of_targets ha.inside.targets)
        (hasEntry_congr (by rw [ha.inside.image])), fun c hc hp => ?_⟩⟩
    rw [target_congr ha.inside.targets]
    exact free c (ha.inside.command.symm.trans hc) hp
  hardwareReset cause s t h hs := by
    refine ⟨stepKeeps_imageOk.hardwareReset cause s t h hs.1, ?_⟩
    cases h
    obtain ⟨agree, -⟩ := markersOk_iff.1 invariantsHoldAtReset.2.2.2.2.2.2.2.1
    exact markersOk_iff.2 ⟨agree.congr (fun _ => rfl) (hasEntry_congr rfl), nofun⟩
  interfaceReset s h := by
    obtain ⟨agree, -⟩ := markersOk_iff.1 h.2
    refine ⟨stepKeeps_imageOk.interfaceReset s h.1, markersOk_iff.2 ⟨agree.congr (fun a => ?_)
      (hasEntry_map rfl (fun e => (entryAtInterfaceReset_fields e).1)
        (fun e => (entryAtInterfaceReset_fields e).2.2.1)), nofun⟩⟩
    rw [interfaceReset_target, Option.map_map]
    rfl
  take s c s0 due edit h := by
    obtain ⟨agree, -⟩ := markersOk_iff.1 h.2
    have order : KeysRise s.dequeue.image.entries := by simpa using h.1.order
    have hd := (agree.congr (t := s.dequeue) (sameMarkers_of_targets (by simp))
      (hasEntry_congr (by simp))).edit order edit
    exact ⟨stepKeeps_imageOk.take s c s0 due edit h.1,
      markersOk_iff.2 ⟨hd.congr (fun _ => rfl) (hasEntry_congr rfl), by rintro _ ⟨⟩; nofun⟩⟩

/-- Settles O55: DEFINE and RETIRE of a MARKER move the entry and the marker field together, and a
slot is filled only where no entry can be. -/
theorem stepKeepsTheMarkers : Obligations.StepKeepsTheMarkers := fun _ _ image ok h =>
  (stepKeeps_markersOk.step h ⟨image, ok⟩).2

end Machine
end Sys2Proof
end

section
/-! PROOF. The entries: what every step keeps of REPAIRING, of the ranges and of the reset values
(R3, R4, R6, R14, R15). -/

namespace Sys2Proof
namespace Machine

variable {s t : State}

/-! ### Each entry after a take -/

/-- Where an entry that stands in the Image Table after a take comes from. -/
inductive EditedEntry (s : State) (b : CmdBytes) : Entry → Prop
  | kept (e : Entry) (he : e ∈ s.image.entries) : EditedEntry s b e
  | released (e : Entry) (he : e ∈ s.image.entries) : EditedEntry s b { e with state := .unseen }
  | new (reset : defineClass b = .marker → sameUnder b.mask b.rstval b.value = false) :
      EditedEntry s b (newEntry b)
  | updated (e : Entry) (he : e ∈ s.image.entries)
      (sound : breaksMarker (updatedEntry e b) = false) : EditedEntry s b (updatedEntry e b)

theorem Edit.editedEntry {c : Staged} {k : Option CommandKind} (h : Edit s c k t) {e : Entry}
    (he : e ∈ t.image.entries) : EditedEntry s c.body e := by
  cases h with
  | unchanged | detach | set | commit => exact .kept e he
  | release =>
    rw [releaseTarget_image] at he
    obtain ⟨x, hx, rfl⟩ := List.mem_map.1 he
    split
    · exact .released x hx
    · exact .kept x hx
  | define x attached passes =>
    rw [insertNew_image] at he
    rcases mem_insertEntry.1 he with rfl | he
    · exact .new (defineRefusal_none passes).reset
    · exact .kept e he
  | update e0 found sound =>
    rw [takeUpdate_image] at he
    obtain ⟨x, hx, rfl⟩ := List.mem_map.1 he
    split
    · exact .updated e0 (entry_some found).1 sound
    · exact .kept x hx
  | retire e0 found =>
    rw [removeEntry_image] at he
    exact .kept e (List.mem_filter.1 he).1

/-! ### A property of the entries -/

/-- A property of entries that changes of what the part knows, edits and an Interface Reset keep. -/
theorem StepKeeps.entries {P : Entry → Prop}
    (change : ∀ s k f, EntryChange s k f → KeysRise s.image.entries →
      ∀ e ∈ s.image.entries, e.key = k → P e → P (f e))
    (reset : ∀ e, P e → P (entryAtInterfaceReset e))
    (edited : ∀ (s : State) b e, EditedEntry s b e → (∀ x ∈ s.image.entries, P x) → P e) :
    StepKeeps fun s => ImageOk s ∧ ∀ e ∈ s.image.entries, P e where
  move s t m h := by
    refine ⟨stepKeeps_imageOk.move s t m h.1, ?_⟩
    rcases m.entries with he | ⟨k, f, hf, rfl⟩
    · exact he ▸ h.2
    · intro e he
      rw [modifyEntry_entries] at he
      obtain ⟨x, hx, rfl⟩ := List.mem_map.1 he
      split
      · rename_i hk; exact change s k f hf h.1.order x hx hk (h.2 x hx)
      · exact h.2 x hx
  access i s t ha h := ⟨stepKeeps_imageOk.access i s t ha h.1, ha.inside.image ▸ h.2⟩
  hardwareReset cause s t h hs := by
    refine ⟨stepKeeps_imageOk.hardwareReset cause s t h hs.1, ?_⟩
    cases h; exact nofun
  interfaceReset s h := by
    refine ⟨stepKeeps_imageOk.interfaceReset s h.1, fun e he => ?_⟩
    obtain ⟨x, hx, rfl⟩ := List.mem_map.1 he
    exact reset x (h.2 x hx)
  take s c s0 due edit h := by
    refine ⟨stepKeeps_imageOk.take s c s0 due edit h.1, fun e he => ?_⟩
    exact edited _ _ e (edit.editedEntry he) (by simpa using h.2)

theorem stepKeeps_rangesOk : StepKeeps fun s => ImageOk s ∧ EntryRangesOk s := by
  refine StepKeeps.entries (P := Entry.RangeOk) (fun s k f hf order e he hk h =>
    hf.ranges order e he hk h) (fun e h => ?_) fun s b e edited h => ?_
  · obtain ⟨-, bytes, -, -, attempts, drifts, observed, -⟩ := entryAtInterfaceReset_fields e
    simpa [Entry.RangeOk, attempts, drifts, observed, mask_of_bytes bytes] using h
  · cases edited with
    | kept e he => exact h e he
    | released e he => exact h e he
    | new => exact ⟨Nat.zero_le _, Nat.zero_le _, nofun⟩
    | updated e he => exact ⟨Nat.zero_le _, (h e he).2.1, nofun⟩

/-- An entry's reset value is a marker's, and apart from its expected value (R4, R6). -/
def Entry.ResetOk (e : Entry) : Prop :=
  (e.resetValue.isSome = true ↔ e.cls = .marker) ∧
    ∀ r, e.resetValue = some r → r &&& e.mask ≠ e.expected &&& e.mask

theorem Entry.ResetOk.congr {e x : Entry} (h : e.ResetOk) (bytes : entryBytes x = entryBytes e)
    (cls : x.cls = e.cls) (resetValue : x.resetValue = e.resetValue) : x.ResetOk := by
  simpa [Entry.ResetOk, cls, resetValue, mask_of_bytes bytes, expected_of_bytes bytes] using h

theorem resetOk_newEntry {b : CmdBytes}
    (reset : defineClass b = .marker → sameUnder b.mask b.rstval b.value = false) :
    (newEntry b).ResetOk := by
  unfold Entry.ResetOk newEntry
  dsimp only
  by_cases hm : defineClass b = .marker
  · simpa [hm, sameUnder] using reset hm
  · simp [hm]

theorem resetOk_updatedEntry {e : Entry} {b : CmdBytes} (h : e.ResetOk)
    (sound : breaksMarker (updatedEntry e b) = false) : (updatedEntry e b).ResetOk := by
  refine ⟨h.1, fun r hr => ?_⟩
  have marker : (updatedEntry e b).cls = .marker := h.1.1 (by rw [show e.resetValue = some r from hr]; rfl)
  unfold breaksMarker at sound
  rw [marker, hr] at sound
  simpa [sameUnder] using sound

theorem stepKeeps_resetValuesOk : StepKeeps fun s => ImageOk s ∧ ResetValuesOk s := by
  refine StepKeeps.entries (P := Entry.ResetOk) (fun s k f hf _ e _ _ h =>
    h.congr (hf.bytes e) (hf.cls e) (hf.resetValue e)) (fun e h => ?_) fun s b e edited h => ?_
  · obtain ⟨-, bytes, cls, resetValue, -⟩ := entryAtInterfaceReset_fields e
    exact h.congr bytes cls resetValue
  · cases edited with
    | kept e he => exact h e he
    | released e he => exact h e he
    | new reset => exact resetOk_newEntry reset
    | updated e he sound => exact resetOk_updatedEntry (h e he) sound

/-! ### REPAIRING -/

theorem RepairingOk.congr (h : RepairingOk s) (entries : t.image.entries = s.image.entries)
    (state : t.scrub.state = s.scrub.state) (current : t.scrub.current = s.scrub.current) :
    RepairingOk t := by
  simpa only [RepairingOk, entries, state, current] using h

/-- While the engine repairs nothing, no entry is REPAIRING. -/
theorem RepairingOk.none (h : RepairingOk s) (engine : ¬s.scrub.state.Repairing)
    (entries : t.image.entries = s.image.entries) : RepairingOk t := fun e he hr =>
  absurd (h e (entries ▸ he) hr).2 engine

theorem Move.repairingOk (m : Move s t) (order : KeysRise s.image.entries) (h : RepairingOk s) :
    RepairingOk t := by
  cases m with
  | outside | log | selfCheck | target | finish | progress | probe | filled | port
  | claimExecutor => exact h.congr (by simp) (by simp) (by simp)
  | mark x done state current => exact h.congr rfl state current
  | engine x done _ noRepair => exact fun e he hr => absurd hr (noRepair order h e he)
  | repair r =>
    intro e he hr
    refine ⟨(h e he hr).1, ?_⟩
    unfold State.setRepair
    dsimp only
    split
    · exact .inr rfl
    all_goals exact .inl rfl
  | claimScrub x e p _ _ reading =>
    exact h.none (by simp [reading, ScrubState.Repairing]) (by simp)
  | restoreStep eng =>
    cases eng with
    | scrub => exact h
    | executor => exact h.congr (by simp) (by simp) (by simp)
  | restoreEnds eng p p' f abandoned hr =>
    cases eng with
    | scrub => exact h.none (by simp [hr.1, ScrubState.Repairing]) (by simp)
    | executor => exact h.congr (by simp) (by simp) (by simp)
  | entry k f hf =>
    intro e he hr
    rw [modifyEntry_entries] at he
    obtain ⟨x, hx, rfl⟩ := List.mem_map.1 he
    split at hr
    · rename_i hk
      rw [if_pos hk, hf.key]
      rcases hf.repairing x hr with hr | hr
      · exact h x hx hr
      · exact hk ▸ hr
    · rename_i hk
      rw [if_neg hk]
      exact h x hx hr

theorem RepairingOk.edit {c : Staged} {k : Option CommandKind} (h : RepairingOk s)
    (edit : Edit s c k t) : RepairingOk t := by
  intro e he hr
  obtain ⟨state, current, -⟩ := edit.frame.scrub
  rw [state, current]
  cases edit.editedEntry he with
  | kept e he => exact h e he hr
  | released e he => cases hr
  | new =>
    unfold newEntry at hr
    dsimp only at hr
    split at hr <;> cases hr
  | updated x hx =>
    unfold updatedEntry at hr
    dsimp only at hr
    split at hr
    · cases hr
    · exact h x hx hr

theorem stepKeeps_repairingOk : StepKeeps fun s => ImageOk s ∧ RepairingOk s where
  move s t m h := ⟨stepKeeps_imageOk.move s t m h.1, m.repairingOk h.1.order h.2⟩
  access i s t ha h := ⟨stepKeeps_imageOk.access i s t ha h.1,
    h.2.congr (by rw [ha.inside.image]) (by rw [ha.inside.scrub]) (by rw [ha.inside.scrub])⟩
  hardwareReset cause s t h hs := by
    refine ⟨stepKeeps_imageOk.hardwareReset cause s t h hs.1, ?_⟩
    cases h; exact nofun
  interfaceReset s h := by
    refine ⟨stepKeeps_imageOk.interfaceReset s h.1, fun e he hr => ?_⟩
    obtain ⟨x, -, rfl⟩ := List.mem_map.1 he
    exact absurd hr (entryAtInterfaceReset_fields x).2.2.2.2.2.2.2
  take s c s0 due edit h := by
    have hd := (h.2.congr (t := s.dequeue) (by simp) (by simp) (by simp)).edit edit
    exact ⟨stepKeeps_imageOk.take s c s0 due edit h.1, hd.congr rfl rfl rfl⟩

/-- Settles O57: of REPAIRING by the engine's moves, of the ranges and the reset values entry by
entry. -/
theorem stepKeepsTheEntries : Obligations.StepKeepsTheEntries := fun _ _ image h =>
  ⟨fun ok => (stepKeeps_repairingOk.step h ⟨image, ok⟩).2,
    fun ok => (stepKeeps_rangesOk.step h ⟨image, ok⟩).2,
    fun ok => (stepKeeps_resetValuesOk.step h ⟨image, ok⟩).2⟩

end Machine
end Sys2Proof
end

section
/-! PROOF. What only its own commands end or move, and the one record of each command (R80, R81, R84,
R86, R108, R110, R112, R120, R136, R149, R174, R181). -/

namespace Sys2Proof
namespace Machine

variable {s t : State}

/-! ### Quarantine -/

/-- A QUARANTINED target is attached in this slot, at this place. -/
def State.QuarantinedAt (s : State) (a : Fin 16) (place : PortId × BitVec 7) : Prop :=
  ∃ y, s.target a = some y ∧ y.state = .quarantined ∧ y.place = place

variable {a : Fin 16} {place : PortId × BitVec 7}

theorem State.QuarantinedAt.congr (h : s.QuarantinedAt a place) (targets : t.targets = s.targets) :
    t.QuarantinedAt a place := by
  obtain ⟨y, hy, hq⟩ := h
  exact ⟨y, (target_congr targets a).trans hy, hq⟩

theorem State.QuarantinedAt.other (h : s.QuarantinedAt a place) {b : Fin 16} {y : Option Target}
    (hb : a ≠ b) (targets : t.targets = (s.setTarget b y).targets) : t.QuarantinedAt a place := by
  obtain ⟨x, hx, hq⟩ := h
  exact ⟨x, by rw [target_congr targets, target_setTarget_eq, if_neg hb, hx], hq⟩

theorem State.QuarantinedAt.record (h : s.QuarantinedAt a place) {b : Fin 16} {x y : Target}
    (attached : s.target b = some x) (same : y.place = x.place)
    (quarantined : x.state = .quarantined → y.state = .quarantined)
    (targets : t.targets = (s.setTarget b (some y)).targets) : t.QuarantinedAt a place := by
  by_cases hb : a = b
  · subst hb
    obtain ⟨z, hz, hq, hp⟩ := h
    cases attached.symm.trans hz
    exact ⟨y, by rw [target_congr targets, target_setTarget_eq, if_pos rfl], quarantined hq, same.trans hp⟩
  · exact h.other hb targets

theorem Move.quarantinedAt (m : Move s t) (free : ProbeFree s) (h : s.QuarantinedAt a place) :
    t.QuarantinedAt a place := by
  cases m.targets with
  | same ht => exact h.congr ht
  | record b x y attached same quarantined ht =>
    exact h.record attached (Prod.ext same.port same.busAddr) quarantined ht
  | filled c command _ ht =>
    refine h.other (fun e => ?_) ht
    obtain ⟨y, hy, -⟩ := h
    rw [e, free _ command rfl] at hy
    cases hy

theorem Moves.quarantinedAt (m : Moves s t) (free : ProbeFree s) (h : s.QuarantinedAt a place) :
    t.QuarantinedAt a place :=
  (Moves.keeps (P := fun s => ProbeFree s ∧ s.QuarantinedAt a place)
    (fun _ _ m h => ⟨m.probeFree h.1, m.quarantinedAt h.1 h.2⟩) m ⟨free, h⟩).2

theorem interfaceReset_quarantinedAt (h : s.QuarantinedAt a place) :
    s.interfaceReset.QuarantinedAt a place := by
  obtain ⟨y, hy, hq, hp⟩ := h
  exact ⟨targetAtInterfaceReset y, by rw [interfaceReset_target, hy]; rfl,
    by simp [targetAtInterfaceReset, hq], hp⟩

/-- Of the edits, DETACH and RELEASE alone end a quarantine. -/
theorem Edit.quarantinedAt {c : Staged} {k : Option CommandKind} (edit : Edit s c k t)
    (h : s.QuarantinedAt a place) (detach : k ≠ some .detach) (release : k ≠ some .release) :
    t.QuarantinedAt a place := by
  cases edit.targets with
  | same ht => exact h.congr ht
  | freed kind => exact absurd kind detach
  | released kind => exact absurd kind release
  | marked x m attached ht => exact h.record (y := { x with marker := m }) attached rfl id ht

theorem rowOf_eq {c : Staged} {k : CommandKind} (h : kindOf c.kind = some k) :
    rowOf c = rowOf (stagedOf k c.body) := by
  cases k <;> simp [rowOf, h] <;> rfl

theorem Takes.quarantinedAt {i : Instr} {c : Staged} (h : Takes i s c t)
    (hq : s.QuarantinedAt a place) : t.QuarantinedAt a place ∨ i = .commandTake ∨
      (∃ b, i = .release b) ∨ ∃ b, i = .detach b := by
  rcases h.row with hi | hi
  · exact .inr (.inl hi)
  by_cases detach : kindOf c.kind = some .detach
  · exact .inr (.inr (.inr ⟨c.body, hi.trans (rowOf_eq detach)⟩))
  by_cases release : kindOf c.kind = some .release
  · exact .inr (.inr (.inl ⟨c.body, hi.trans (rowOf_eq release)⟩))
  obtain ⟨s0, edit, hm⟩ := begins_begin (s := s.dequeue) c
  rw [h.result]
  refine .inl (Moves.quarantinedAt (hm.trans (moves_settled _)) (by rintro _ ⟨⟩; nofun) ?_)
  exact (edit.quarantinedAt (hq.congr (by simp)) detach release).congr rfl

/-- Settles O58: no move takes a record out of QUARANTINED, and of the edits only those of RELEASE and
DETACH do. -/
theorem onlySoftwareEndsAQuarantine : Obligations.OnlySoftwareEndsAQuarantine := by
  intro i s t a x free hx quarantined h
  have hq : s.QuarantinedAt a x.place := ⟨x, hx, quarantined, rfl⟩
  have stays : t.QuarantinedAt a x.place → ∃ y, t.target a = some y ∧ y.state = .quarantined ∧
      y.port = x.port ∧ y.busAddr = x.busAddr := fun ⟨y, hy, hs, hp⟩ =>
    ⟨y, hy, hs, congrArg Prod.fst hp, congrArg Prod.snd hp⟩
  cases event_of_exec h with
  | hardwareReset cause hi => exact .inr (.inl ⟨cause, hi⟩)
  | interfaceReset code _ result => exact .inl (stays (result ▸ interfaceReset_quarantinedAt hq))
  | access ha => exact .inl (stays (hq.congr ha.inside.targets))
  | moves hm => exact .inl (stays (hm.quarantinedAt free hq))
  | take c ht =>
    rcases ht.quarantinedAt hq with hq | hi | hi | hi
    · exact .inl (stays hq)
    · exact .inr (.inr (.inl hi))
    · exact .inr (.inr (.inr (.inl hi)))
    · exact .inr (.inr (.inr (.inr hi)))

/-! ### What belongs to one command -/

/-- The commands that may move the Disable flags, the staging bytes, the settings, the reference with
TABLE_FAULT, and the bytes of the image. -/
structure OwnCommands (i : Instr) (s t : State) : Prop where
  disable : t.sections.disable = s.sections.disable ∨
    (∃ code, i = .interfaceReset code) ∨ ∃ b, i = .idisWrite b
  staging : t.staging = s.staging ∨ ∃ w b, i = .stagingWrite w b
  settings : t.settings = s.settings ∨ i = .commandTake ∨ ∃ b, i = .set b
  reference : (t.image.reference = s.image.reference ∧
      (s.image.tableFault = true → t.image.tableFault = true)) ∨
    i = .commandTake ∨ ∃ b, i = .commit b
  bytes : (t.image.signature = s.image.signature ∧
      t.image.entries.map entryBytes = s.image.entries.map entryBytes) ∨
    i = .commandTake ∨ (∃ b, i = .define b) ∨ (∃ b, i = .update b) ∨ ∃ b, i = .retire b

theorem Move.bytes (m : Move s t) :
    t.image.entries.map entryBytes = s.image.entries.map entryBytes := by
  rcases m.entries with he | ⟨k, f, hf, rfl⟩
  · rw [he]
  · rw [modifyEntry_entries, List.map_map]
    refine List.map_congr_left fun e _ => ?_
    simp only [Function.comp_apply]
    split
    · exact hf.bytes e
    · rfl

theorem Moves.bytes (m : Moves s t) :
    t.image.entries.map entryBytes = s.image.entries.map entryBytes :=
  Moves.keeps (P := fun u => u.image.entries.map entryBytes = s.image.entries.map entryBytes)
    (fun _ _ m h => m.bytes.trans h) m rfl

/-- Of the edits, DEFINE, UPDATE and RETIRE alone move the bytes of the image. -/
theorem Edit.bytes {c : Staged} {k : Option CommandKind} (h : Edit s c k t) :
    (t.image.signature = s.image.signature ∧
      t.image.entries.map entryBytes = s.image.entries.map entryBytes) ∨
    k = some .define ∨ k = some .update ∨ k = some .retire := by
  cases h with
  | unchanged | detach | set | commit => exact .inl ⟨rfl, rfl⟩
  | define => exact .inr (.inl rfl)
  | update => exact .inr (.inr (.inl rfl))
  | retire => exact .inr (.inr (.inr rfl))
  | release =>
    rw [releaseTarget_image]
    refine .inl ⟨rfl, ?_⟩
    rw [List.map_map]
    refine List.map_congr_left fun e _ => ?_
    simp only [Function.comp_apply]
    split <;> rfl

/-- The host's side of the part, its Disable flags and staging bytes, at a take. -/
theorem dequeue_owned (s : State) : s.dequeue.sections.disable = s.sections.disable ∧
    s.dequeue.staging = s.staging := by
  unfold State.dequeue; split <;> exact ⟨rfl, rfl⟩

theorem Takes.own {i : Instr} {c : Staged} (h : Takes i s c t) : OwnCommands i s t := by
  obtain ⟨s0, edit, hm⟩ := begins_begin (s := s.dequeue) c
  have moves : Moves (s0.setCommand c .direct) t := h.result ▸ hm.trans (moves_settled _)
  have side := moves.hostSide
  have row : ∀ k, kindOf c.kind = some k → i = .commandTake ∨ i = rowOf (stagedOf k c.body) :=
    fun k hk => h.row.imp_right fun hi => hi.trans (rowOf_eq hk)
  constructor
  · left
    rw [side.disable, setCommand_sections, edit.frame.sections, (dequeue_owned s).1]
  · left
    rw [side.staging, setCommand_staging, edit.frame.staging, (dequeue_owned s).2]
  · rcases edit.settings with hs | ⟨hk, -⟩
    · left; rw [side.settings, setCommand_settings, hs, dequeue_settings]
    · exact .inr ((row _ hk).imp_right fun hi => ⟨_, hi⟩)
  · rcases edit.reference with ⟨hr, hf⟩ | ⟨hk, -⟩
    · left
      refine ⟨by rw [side.reference, setCommand_image, hr, dequeue_image], fun fault => ?_⟩
      exact side.fault (by rw [setCommand_image, hf, dequeue_image, fault])
    · exact .inr ((row _ hk).imp_right fun hi => ⟨_, hi⟩)
  · rcases edit.bytes with ⟨hs, hb⟩ | hk | hk | hk
    · left
      exact ⟨by rw [side.signature, setCommand_image, hs, dequeue_image],
        by rw [moves.bytes, setCommand_image, hb, dequeue_image]⟩
    · exact .inr ((row _ hk).imp_right fun hi => .inl ⟨_, hi⟩)
    · exact .inr ((row _ hk).imp_right fun hi => .inr (.inl ⟨_, hi⟩))
    · exact .inr ((row _ hk).imp_right fun hi => .inr (.inr ⟨_, hi⟩))

theorem HostAccess.own {i : Instr} (h : HostAccess i s t) : OwnCommands i s t := by
  have image := h.inside.image
  have rest : t.sections.disable = s.sections.disable ∨ ∃ b, i = .idisWrite b := by
    cases h with
    | disable => exact .inr ⟨_, rfl⟩
    | ignored | rise | accepted | waits | withdrawn | released | discarded | logReleased
    | logDiscarded | staged => exact .inl rfl
  have staging : t.staging = s.staging ∨ ∃ w b, i = .stagingWrite w b := by
    cases h with
    | staged => exact .inr ⟨_, _, rfl⟩
    | ignored | rise | accepted | waits | withdrawn | released | discarded | logReleased
    | logDiscarded | disable => exact .inl rfl
  exact ⟨rest.imp_right .inr, staging, .inl h.inside.settings,
    .inl ⟨by rw [image], fun f => by rw [image, f]⟩, .inl ⟨by rw [image], by rw [image]⟩⟩

theorem Moves.own {i : Instr} (h : Moves s t) : OwnCommands i s t :=
  ⟨.inl h.hostSide.disable, .inl h.hostSide.staging, .inl h.hostSide.settings,
    .inl ⟨h.hostSide.reference, h.hostSide.fault⟩, .inl ⟨h.hostSide.signature, h.bytes⟩⟩

theorem interfaceReset_own (code : BitVec 4) :
    OwnCommands (.interfaceReset code) s s.interfaceReset := by
  refine ⟨.inr (.inl ⟨code, rfl⟩), .inl rfl, .inl rfl, .inl ⟨rfl, id⟩, .inl ⟨rfl, ?_⟩⟩
  rw [State.interfaceReset, List.map_map]
  exact List.map_congr_left fun e _ => (entryAtInterfaceReset_fields e).2.1

theorem own_of_exec {i : Instr} (h : exec i s = .next t) (noReset : ∀ cause, i ≠ .hardwareReset cause) :
    OwnCommands i s t := by
  cases event_of_exec h with
  | hardwareReset cause hi => exact absurd hi (noReset cause)
  | interfaceReset code hi result => rw [hi, result]; exact interfaceReset_own code
  | access ha => exact ha.own
  | moves hm => exact hm.own
  | take c ht => exact ht.own

/-- Settles O59: no move touches what belongs to one command, and each edit is of its kind. -/
theorem onlyTheirCommandsMoveThem : Obligations.OnlyTheirCommandsMoveThem := by
  intro i s t h noReset
  have own := own_of_exec h noReset
  refine ⟨fun hd => own.disable.resolve_left hd, fun hd => own.staging.resolve_left hd,
    fun hd => own.settings.resolve_left hd, fun hd => own.reference.resolve_left fun k => hd k.1,
    fun hf ht => own.reference.resolve_left fun k => ?_, fun hd => own.bytes.resolve_left fun k => ?_⟩
  · rw [k.2 hf] at ht; cases ht
  · exact hd.elim (fun hs => hs k.1) fun hb => hb k.2

/-! ### One record for each command -/

/-- The command is still current with no record made, or has left its one record at the tail. -/
def OneRecord (completions : List Completion) (c : Staged) (t : State) : Prop :=
  (∃ g, t.command = some { staged := c, progress := g } ∧ t.completions = completions) ∨
    ∃ r : Completion, t.command = none ∧ t.completions = completions ++ [r] ∧ r.Answers c

theorem Move.oneRecord {completions : List Completion} {c : Staged} (m : Move s t)
    (h : OneRecord completions c s) : OneRecord completions c t := by
  rcases h with ⟨g, hc, hr⟩ | ⟨r, hc, hr, answers⟩
  · cases m.command with
    | same command records => exact .inl ⟨g, command.trans hc, records.trans hr⟩
    | ended c' g' r command none records answers =>
      cases command.symm.trans hc
      exact .inr ⟨r, none, hr ▸ records, answers⟩
    | goesOn c' g' g'' command command' records =>
      cases command.symm.trans hc
      exact .inl ⟨g'', command', records.trans hr⟩
  · cases m.command with
    | same command records => exact .inr ⟨r, command.trans hc, records.trans hr, answers⟩
    | ended _ _ _ command => cases command.symm.trans hc
    | goesOn _ _ _ command => cases command.symm.trans hc

theorem HostAccess.completions {i : Instr} (h : HostAccess i s t) (start : i ≠ .resultStart)
    (clear : i ≠ .resultClear) : t.completions = s.completions := by
  cases h with
  | released => exact absurd rfl start
  | discarded => exact absurd rfl clear
  | ignored | rise | accepted | waits | withdrawn | logReleased | logDiscarded | disable
  | staged => rfl

/-- Settles O60: each move keeps to one record, and with a current command no take is due. -/
theorem oneRecordForEachCommand : Obligations.OneRecordForEachCommand := by
  intro i s t c hc h noReset noInterface noStart noClear
  have now : OneRecord s.completions c.staged s := .inl ⟨c.progress, hc, rfl⟩
  have after : OneRecord s.completions c.staged t := by
    cases event_of_exec h with
    | hardwareReset cause hi => exact absurd hi (noReset cause)
    | interfaceReset code hi => exact absurd hi (noInterface code)
    | access ha =>
      exact .inl ⟨c.progress, ha.inside.command.trans hc, ha.completions noStart noClear⟩
    | moves hm =>
      exact Moves.keeps (P := OneRecord s.completions c.staged) (fun _ _ m h => m.oneRecord h) hm now
    | take c' ht => rw [noCommand_of_canTake ht.due] at hc; cases hc
  exact after

end Machine
end Sys2Proof
end

section
/-! PROOF. The queue, the register window, the resets and the host's accesses (R34 to R36, R46, R47,
R115, R150, R151, R163, R164, R166 to R174, R178 to R187). -/

namespace Sys2Proof
namespace Machine

variable {s t : State}

/-- Settles O1: the two cases of the queue. -/
theorem stepRunsFrontCommand : Obligations.StepRunsFrontCommand :=
  ⟨fun _ _ _ h => by simp only [step, h], fun _ h => by simp only [step, h]⟩

/-! ### Writes to the register window -/

theorem decodeWindowWrite_flagcmd (b : Byte) : decodeWindowWrite 0x0C b = decodeFlagCommand b := rfl

/-- What a FLAGCMD byte is depends on its function and its section code, unless it is ignored. -/
theorem decodeFlagCommand_congr {b c : Byte} (function : flagFunction c = flagFunction b)
    (sectionCode : flagSection c = flagSection b) :
    decodeFlagCommand c = decodeFlagCommand b ∨ ∃ x, decodeFlagCommand b = .flagcmdIgnored x := by
  unfold decodeFlagCommand
  rw [function, sectionCode]
  split
  case h_14 => exact .inr ⟨b, rfl⟩
  all_goals exact .inl rfl

theorem flagSection_append (x : BitVec 1) (b : BitVec 7) :
    flagSection (x ++ b) = b.extractLsb' 0 4 := by
  unfold flagSection
  ext i hi
  have := BitVec.getLsbD_append (x := x) (y := b) (i := i)
  simp_all [show i < 7 by omega]

theorem flagFunction_append (x : BitVec 1) (b : BitVec 7) :
    flagFunction (x ++ b) = b.extractLsb' 4 3 := by
  unfold flagFunction
  ext i hi
  have := BitVec.getLsbD_append (x := x) (y := b) (i := 4 + i)
  simp_all [show 4 + i < 7 by omega]

theorem decodeFlagCommand_ignored {b : Byte} (h : ignoredFlagByte b = true) :
    decodeFlagCommand b = .flagcmdIgnored b := by
  unfold decodeFlagCommand
  split
  case h_14 => rfl
  all_goals simp_all [ignoredFlagByte]

theorem decodeFlagCommand_wellFormed (b : Byte) : (decodeFlagCommand b).wellFormed = true := by
  have hf := (flagFunction b).isLt
  unfold decodeFlagCommand
  split
  case h_14 =>
    simp [Instr.wellFormed, ignoredFlagByte]
    grind
  all_goals rfl

theorem stagingAt_eq_none {n : Nat} (h : 8 < n) : stagingAt n = none := by
  unfold stagingAt
  exact List.getElem?_eq_none (by simp; omega)

theorem decodeWindowWrite_ignored {o : BitVec 6} {b : Byte} (high : 8 < o.toNat) (flagcmd : o ≠ 0x0C)
    (idis : o ≠ 0x0D) : decodeWindowWrite o b = .windowWriteIgnored o b := by
  unfold decodeWindowWrite
  simp only [stagingAt_eq_none high]
  rw [if_neg flagcmd, if_neg idis]

theorem decodeWindowWrite_wellFormed (o : BitVec 6) (b : Byte) :
    (decodeWindowWrite o b).wellFormed = true := by
  unfold decodeWindowWrite
  split
  · rfl
  · rename_i none
    split
    · exact decodeFlagCommand_wellFormed b
    · split
      · rfl
      · have high : 8 < o.toNat := by
          by_contra low
          have := List.getElem?_eq_none_iff.1 none
          simp at this
          omega
        simp_all [Instr.wellFormed, ignoredOffset]

/-- Settles O2: the window map by the offset, FLAGCMD by its function and section code. -/
theorem windowWritesAsCommands : Obligations.WindowWritesAsCommands := by
  refine ⟨by decide, by decide, fun b h => decodeFlagCommand_ignored h, fun b i hi known => ?_,
    fun b => rfl, fun o b => decodeWindowWrite_ignored, decodeWindowWrite_wellFormed,
    fun s => ⟨fun _ => rfl, fun _ _ => rfl, rfl, rfl, rfl⟩⟩
  subst hi
  refine (decodeFlagCommand_congr ?_ ?_).resolve_right fun ⟨x, hx⟩ => known x hx
  · rw [flagFunction_append, flagFunction_append]
  · rw [flagSection_append, flagSection_append]

/-! ### The resets -/

/-- Settles O3: the reset state holds the values, and the flags follow from it. -/
theorem hardwareResetValues : Obligations.HardwareResetValues := by
  intro cause s
  refine ⟨_, rfl, rfl, ?_, rfl, rfl, ?_, rfl, rfl, rfl, ?_, rfl, ?_, ?_, ?_, rfl, ?_, rfl⟩
  · exact (by decide : ∀ a, State.reset.target a = none)
  · intro p; cases p <;> rfl
  · intro w; cases w <;> rfl
  · exact fun x => ⟨by cases x <;> rfl, by cases x <;> rfl, disableFlag_hardwareReset rfl x⟩
  · exact irqReleased_of_disabled (disableFlag_hardwareReset (s := s) (cause := cause) rfl)
  · exact (by decide : State.reset.faultAsserted = false)
  · cases cause <;> rfl

theorem whileRunning_low (h : s.resetnLow = true) (f : State → State) :
    s.whileRunning f = .next s := by
  simp [State.whileRunning, h]

/-- Settles O4: every other command acts only while the part runs. -/
theorem resetnLowHoldsThePart : Obligations.ResetnLowHoldsThePart := by
  refine ⟨fun i s low noReset noRise noAssert noRelease => ?_,
    fun s low o => by simp [State.readWindow, low], fun _ => rfl⟩
  cases i with
  | hardwareReset cause => exact absurd rfl (noReset cause)
  | resetnRise => exact absurd rfl noRise
  | quietAssert => exact absurd rfl noAssert
  | quietRelease => exact absurd rfl noRelease
  | flagcmdIgnored | windowWriteIgnored | issuePulse | resultPulse | alertPulse => rfl
  | _ => rw [exec]; exact whileRunning_low low _

/-! ### The host's accesses -/

theorem stagedGet_stagedPut (x : Staged) (w w' : StagingByte) (b : Byte) :
    stagedGet (stagedPut x w b) w' = if w' = w then b else stagedGet x w' := by
  cases w <;> cases w' <;> rfl

theorem windowByte_idis : s.windowByte 0x0D = s.sections.disable.setWidth 8 := rfl

theorem setWidth_extract_low (b : Byte) : (b.extractLsb' 0 4).setWidth 8 = b &&& 0x0F := by
  ext i hi
  match i, hi with
  | 0, _ | 1, _ | 2, _ | 3, _ | 4, _ | 5, _ | 6, _ | 7, _ => simp

/-- Settles O6: each access while the part runs. -/
theorem hostSideCommands : Obligations.HostSideCommands := by
  intro s running
  have runs (f : State → State) : s.whileRunning f = .next (f s) := whileRunning_running running f
  refine ⟨fun busy => ?_, fun idle room => ?_, fun idle full => ?_, ?_, ?_, ?_, ?_, ?_,
    fun w b => ⟨fun busy => ?_, fun idle => ?_, ?_⟩⟩
  · rw [exec, execIssueStart, runs, if_pos busy]
  · rw [exec, execIssueStart, runs, if_neg (by simp [idle]), if_pos (show s.queue.length < Config.queueCapacity from room)]
  · rw [exec, execIssueStart, runs, if_neg (by simp [idle]), 
      if_neg (show ¬s.queue.length < Config.queueCapacity from Nat.not_lt.2 full)]
  · rw [exec, execIssueClear, runs]
  · rw [exec, execResultStart, runs, List.drop_one]
  · rw [exec, execResultClear, runs]
  · rw [exec, execAlertStart, runs, List.drop_one]
  · rw [exec, execAlertClear, runs]
  · rw [exec, execStagingWrite, runs, if_pos busy]
  · rw [exec, execStagingWrite, runs, if_neg (by simp [idle])]
    exact ⟨_, rfl, rfl, by simp [stagedGet_stagedPut],
      fun w' hw => by simp [stagedGet_stagedPut, hw]⟩
  · rw [exec, execIdisWrite, runs]
    exact ⟨_, rfl, rfl, by simp [State.disableFlag, sectionCode],
      by simp [State.disableFlag, sectionCode], by simp [State.disableFlag, sectionCode],
      by simp [State.disableFlag, sectionCode], windowByte_idis.trans (setWidth_extract_low b)⟩

/-- Settles O8: by the engine's state. -/
theorem scrubFlagCommandsByState : Obligations.ScrubFlagCommandsByState := by
  intro s running
  have runs (f : State → State) : s.whileRunning f = .next (f s) := whileRunning_running running f
  refine ⟨fun resting => ?_, fun idle held quiet => ?_, fun idle => ?_, fun held => ?_⟩
  · rw [exec, execScrubClear, runs]
    rcases resting with h | h | h <;> rw [h] <;> rfl
  · rw [exec, execScrubClear, runs]
    cases h : s.scrub.state with
    | idle => exact absurd h idle
    | held => exact absurd h held
    | quiet => exact absurd h quiet
    | pacing | readWait | repairWait | verifyWait | restore => rfl
  · rw [exec, execScrubStart, runs, if_neg idle]
  · rw [exec, execScrubPulse, runs, if_neg held]

end Machine
end Sys2Proof
end

section
/-! PROOF. The register window as it reads, the summary of faults, and what goes over a bus (R88, R92,
R93, R95, R176, R177, R180 to R187). -/

namespace Sys2Proof
namespace Machine

variable {s t : State}

/-! ### Bits and halves -/

theorem getElem_bitAt (b : Bool) {i j : Nat} (hj : j < 8) :
    (bitAt b i)[j] = (b && decide (j = i)) := by
  unfold bitAt
  cases b <;> simp

theorem highByte_append_lowByte (x : Half) : highByte x ++ lowByte x = x := by
  unfold highByte lowByte
  ext i hi
  rw [← BitVec.getLsbD_eq_getElem, ← BitVec.getLsbD_eq_getElem, BitVec.getLsbD_append]
  by_cases h : i < 8
  · simp [h]
  · simp [h, show i - 8 < 8 by omega, show 8 + (i - 8) = i by omega]

/-! ### The windows of the presented records -/

theorem windowByte_result {o : BitVec 6} (low : 0x10 ≤ o.toNat) (high : o.toNat ≤ 0x1B) :
    s.windowByte o = s.resultByte (o.toNat - 0x10) := by
  unfold State.windowByte
  generalize o.toNat = n at low high
  interval_cases n <;> rfl

theorem windowByte_log {o : BitVec 6} (low : 0x20 ≤ o.toNat) (high : o.toNat ≤ 0x29) :
    s.windowByte o = s.logByte (o.toNat - 0x20) := by
  unfold State.windowByte
  generalize o.toNat = n at low high
  interval_cases n <;> rfl

theorem resultByte_presented {r : Completion} {rest : List Completion}
    (h : s.completions = r :: rest) (i : Nat) : s.resultByte i = (resultBytes r).getD i 0 := by
  simp [State.resultByte, h]

theorem logByte_presented {r : DriftRecord} {rest : List DriftRecord}
    (h : s.log.records = r :: rest) (i : Nat) : s.logByte i = (logBytes r).getD i 0 := by
  simp [State.logByte, h]

/-! ### The status bytes -/

theorem sectStat_bits : [0, 1, 2, 3, 4, 5, 6, 7].map s.sectStat.getLsbD =
    [s.doneFlag .issue, s.busyFlag .issue, s.doneFlag .result, s.busyFlag .result, s.doneFlag .scrub,
     s.busyFlag .scrub, s.doneFlag .alert, s.busyFlag .alert] := by
  simp [State.sectStat, allSections, sectionCode, getElem_bitAt]

theorem portStateByte_eq : s.portStateByte =
    (0 : BitVec 2) ++ (portStateCode s.port1.state).setWidth 2 ++
      (0 : BitVec 2) ++ (portStateCode s.port0.state).setWidth 2 := by
  unfold State.portStateByte
  cases s.port0.state <;> cases s.port1.state <;> rfl

/-! ### The detail bytes -/

/-- The entry detail of its four parts (R186). -/
def detailByte (state cls : Byte) (halt seen : Bool) : Byte :=
  state ||| (cls <<< 3) ||| bitAt halt 6 ||| bitAt seen 7

/-- The code of an entry's state (R186). -/
def entryStateCode : EntryState → Byte
  | .unseen => 0
  | .pending => 1
  | .clean => 2
  | .drifted => 3
  | .repairing => 4
  | .failed => 5

theorem entryDetail_eq (e : Entry) : entryDetail e =
    detailByte (entryStateCode e.state) (classCode e.cls) e.halt e.lastObserved.isSome := by
  unfold entryDetail
  cases e.state <;> rfl

theorem detailByte_flags (x : EntryState) (cls : EntryClass) (halt seen : Bool) :
    (detailByte (entryStateCode x) (classCode cls) halt seen)[6] = halt ∧
    (detailByte (entryStateCode x) (classCode cls) halt seen)[7] = seen := by
  have state : (entryStateCode x)[6] = false ∧ (entryStateCode x)[7] = false := by
    cases x <;> exact ⟨rfl, rfl⟩
  have cls : (classCode cls)[3] = false ∧ (classCode cls)[4] = false := by
    cases cls <;> exact ⟨rfl, rfl⟩
  simp [detailByte, getElem_bitAt, state, cls]

theorem detailByte_state (x : EntryState) (cls : Byte) (halt seen : Bool) :
    (detailByte (entryStateCode x) cls halt seen).extractLsb' 0 3 = (entryStateCode x).setWidth 3 := by
  ext i hi
  simp [detailByte, getElem_bitAt, hi, show i < 8 by omega, show i ≠ 6 by omega,
    show i ≠ 7 by omega]

theorem entryStateCode_high (x : EntryState) {i : Nat} (low : 3 ≤ i) (high : i < 8) :
    (entryStateCode x)[i] = false := by
  have small : (entryStateCode x).toNat < 2 ^ 3 := by cases x <;> decide
  rw [← BitVec.getLsbD_eq_getElem, ← BitVec.testBit_toNat]
  exact Nat.testBit_lt_two_pow (small.trans_le (Nat.pow_le_pow_right (by decide) low))

theorem detailByte_cls (x : EntryState) (cls : Byte) (halt seen : Bool) :
    (detailByte (entryStateCode x) cls halt seen).extractLsb' 3 3 = cls.setWidth 3 := by
  ext i hi
  simp [detailByte, getElem_bitAt, show 3 + i < 8 by omega, show 3 + i ≠ 6 by omega,
    show 3 + i ≠ 7 by omega, entryStateCode_high x (show 3 ≤ 3 + i by omega) (by omega),
    BitVec.getLsbD_eq_getElem (show i < 8 by omega)]

/-- Settles O7: each byte by its offset, the codes and details case by case. -/
theorem windowShowsTheState : Obligations.WindowShowsTheState := by
  refine ⟨fun s => ⟨rfl, ?_, ?_, rfl, rfl, fun r rest h => ?_, fun h o low high => ?_,
    fun r rest h => ?_, fun h o low high => ?_, rfl, ?_, highByte_append_lowByte _,
    highByte_append_lowByte _, highByte_append_lowByte _, ?_, rfl, highByte_append_lowByte _, ?_, ?_,
    fun o => rfl⟩, rfl, rfl, fun e => ?_, fun p w => by cases p <;> cases w <;> rfl⟩
  · exact sectStat_bits
  · rw [windowByte_idis]
    simp
  · have shown (o : BitVec 6) (low : 0x10 ≤ o.toNat) (high : o.toNat ≤ 0x1B) :
        s.windowByte o = (resultBytes r).getD (o.toNat - 0x10) 0 :=
      (windowByte_result low high).trans (resultByte_presented h _)
    simp [shown, resultBytes, highByte, lowByte]
  · rw [windowByte_result low high, State.resultByte, h]
    rfl
  · have shown (o : BitVec 6) (low : 0x20 ≤ o.toNat) (high : o.toNat ≤ 0x29) :
        s.windowByte o = (logBytes r).getD (o.toNat - 0x20) 0 :=
      (windowByte_log low high).trans (logByte_presented h _)
    simp [shown, logBytes, highByte, lowByte]
  · rw [windowByte_log low high, State.logByte, h]
    rfl
  · change scrubStateCode s.scrub.state = _
    cases s.scrub.state <;> rfl
  · change bitAt s.image.reference.isSome 0 = _
    cases s.image.reference <;> rfl
  · change s.portStateByte = _
    rw [portStateByte_eq]
    cases s.port0.state <;> cases s.port1.state <;> rfl
  · intro o ho
    fin_cases ho <;> rfl
  · rw [entryDetail_eq, detailByte_state, detailByte_cls]
    obtain ⟨halt, seen⟩ := detailByte_flags e.state e.cls e.halt e.lastObserved.isSome
    refine ⟨?_, ?_, halt, seen⟩
    · cases e.state <;> rfl
    · cases e.cls <;> rfl

/-! ### The Fault Summary -/

theorem quarantineCount_ne_zero : (s.quarantineCount != 0) = true ↔
    ∃ a x, s.target a = some x ∧ x.state = .quarantined := by
  have : (s.quarantineCount != 0) = true ↔
      ∃ t ∈ s.targets, t.any (fun x => x.state == .quarantined) = true := by
    rw [State.quarantineCount, bne_iff_ne, ← Nat.pos_iff_ne_zero, List.countP_pos_iff]
    simp only [Vector.mem_toList_iff]
  rw [this, exists_mem_targets]
  simp [Option.any_eq_true]

theorem portIsDown_iff {p : PortId} : s.portIsDown p = true ↔ (s.port p).state = .down := by
  simp [State.portIsDown]

theorem exists_portIsDown : (∃ p, (s.port p).state = .down) ↔
    s.portIsDown .p0 = true ∨ s.portIsDown .p1 = true := by
  simp only [portIsDown_iff]
  constructor
  · rintro ⟨p, hp⟩
    cases p
    · exact .inl hp
    · exact .inr hp
  · rintro (h | h)
    · exact ⟨_, h⟩
    · exact ⟨_, h⟩

theorem faultAsserted_iff : s.faultAsserted = true ↔ s.image.tableFault = true ∨
    (∃ p, (s.port p).state = .down) ∨ ∃ a x, s.target a = some x ∧ x.state = .quarantined := by
  rw [exists_portIsDown, ← quarantineCount_ne_zero]
  simp only [State.faultAsserted, Bool.or_eq_true, or_assoc]

theorem faultSummary_bits : s.faultSummary[0] = s.image.tableFault ∧
    s.faultSummary[1] = s.portIsDown .p0 ∧ s.faultSummary[2] = s.portIsDown .p1 ∧
    s.faultSummary[3] = (s.quarantineCount != 0) := by
  simp only [State.faultSummary, BitVec.getElem_or]
  simp [getElem_bitAt]

theorem faultSummary_high {i : Nat} (low : 4 ≤ i) : s.faultSummary.getLsbD i = false := by
  by_cases h : i < 8
  · rw [BitVec.getLsbD_eq_getElem h]
    simp [State.faultSummary, getElem_bitAt, show i ≠ 0 by omega, show i ≠ 1 by omega,
      show i ≠ 2 by omega, show i ≠ 3 by omega]
  · exact BitVec.getLsbD_of_ge _ _ (by omega)

theorem faultAsserted_iff_summary : s.faultAsserted = true ↔ s.faultSummary ≠ 0 := by
  obtain ⟨b0, b1, b2, b3⟩ := faultSummary_bits (s := s)
  constructor
  · intro h hz
    rw [hz] at b0 b1 b2 b3
    simp [State.faultAsserted, ← b0, ← b1, ← b2, ← b3] at h
  · intro h
    by_contra hf
    simp only [State.faultAsserted, Bool.or_eq_true, not_or, Bool.not_eq_true] at hf
    refine h (BitVec.eq_of_getLsbD_eq fun i hi => ?_)
    obtain ⟨⟨⟨h0, h1⟩, h2⟩, h3⟩ := hf
    match i with
    | 0 => exact b0.trans h0
    | 1 => exact b1.trans h1
    | 2 => exact b2.trans h2
    | 3 => exact b3.trans h3
    | i + 4 => rw [faultSummary_high (by omega)]; simp

/-- Settles O49: bit by bit. -/
theorem faultSummaryDrivesFaultn : Obligations.FaultSummaryDrivesFaultn := by
  intro s
  obtain ⟨b0, b1, b2, b3⟩ := faultSummary_bits (s := s)
  refine ⟨faultAsserted_iff, faultAsserted_iff_summary, b0, ?_, ?_, ?_, fun i => faultSummary_high,
    fun _ => rfl⟩
  · rw [show s.faultSummary.getLsbD 1 = _ from b1]; exact portIsDown_iff
  · rw [show s.faultSummary.getLsbD 2 = _ from b2]; exact portIsDown_iff
  · rw [show s.faultSummary.getLsbD 3 = _ from b3]; exact quarantineCount_ne_zero

end Machine
end Sys2Proof
end

section
/-! PROOF. What goes over a bus, bit by bit: the bytes and pulses of a transaction, its outcome, the
pulses of a recovery round, and where either is cut short (R88, R92, R93, R95). -/

namespace Sys2Proof
namespace Machine

/-! ### Releases of SCL awaited -/

theorem count_sendPulse (bit : Bool) : (sendPulse bit).count .awaitScl = 1 := by cases bit <;> rfl

theorem count_sendByte (b : Byte) : ((bitsOfByte b).flatMap sendPulse).count .awaitScl = 8 := by
  simp [bitsOfByte, count_sendPulse]

/-- Each byte, sent or received, awaits SCL once for each of its nine pulses (R88, R93). -/
theorem count_sent (b : SentByte) (v : Byte) : (BusAction.sent b v).activity.count .awaitScl = 9 := by
  rw [BusAction.activity, List.count_append, count_sendByte]
  rfl

theorem count_received : BusAction.received.activity.count .awaitScl = 9 := by decide

/-- The releases of SCL that a list of actions awaits. -/
def awaited (l : List BusAction) : Nat := (l.flatMap BusAction.activity).count .awaitScl

theorem awaited_nil : awaited [] = 0 := rfl

theorem awaited_cons (a : BusAction) (l : List BusAction) :
    awaited (a :: l) = a.activity.count .awaitScl + awaited l := by
  simp [awaited]

theorem awaited_lines (l : List LineAction) : (BusAction.lines l).activity.count .awaitScl =
    l.count .awaitScl := rfl

theorem count_activity (f : Flight) : (f.activity none).count .awaitScl =
    pulseCount f.form + match f.form with
      | .read _ _ => 2
      | .probe | .write _ _ _ => 1 := by
  change awaited (transactionActions f.busAddr f.form none) = _
  cases f.form with
  | probe =>
    simp [transactionActions, bytesUntil, sentBytes, byteActions, awaited_cons, awaited_nil,
      awaited_lines, count_sent, startCondition, stopCondition, pulseCount]
  | read addr w =>
    cases w <;>
      simp [transactionActions, bytesUntil, sentBytes, addressBytes, byteActions, awaited_cons,
        awaited_nil, awaited_lines, count_sent, count_received, startCondition, stopCondition,
        repeatedStart, pulseCount]
  | write addr w d =>
    cases w <;>
      simp [transactionActions, bytesUntil, sentBytes, addressBytes, byteActions, awaited_cons,
        awaited_nil, awaited_lines, count_sent, startCondition, stopCondition, pulseCount]

theorem endOutcome_refused (f : Form) (v : Byte) (b : SentByte) : endOutcome f (some b) v =
    if b ∈ sentBytes f then
      some (if b = .address ∨ b = .readAddress then .noResponse else .dataRefused)
    else none := by
  unfold endOutcome
  by_cases h : b ∈ sentBytes f
  · rw [if_pos h]
    dsimp only
    rw [if_pos (by simpa using h)]
    cases b <;> rfl
  · rw [if_neg h]
    dsimp only
    rw [if_neg (by simpa using h)]

/-! ### Recovery rounds -/

theorem takeWhile_replicate_low (n : Nat) (later : List Bool) :
    (List.replicate n false ++ later).takeWhile (!·) =
      List.replicate n false ++ later.takeWhile (!·) := by
  induction n with
  | zero => rfl
  | succ n ih => simp [List.replicate_succ, ih]

/-- The pulses of a round whose line reads low at first, and low after `n` pulses more. -/
theorem recoveryPulses_low (n : Nat) (later : List Bool) :
    recoveryPulses (List.replicate (n + 1) false ++ later) =
      min 9 (1 + (n + (later.takeWhile (!·)).length)) := by
  rw [List.replicate_succ, List.cons_append, recoveryPulses, if_neg (by simp),
    takeWhile_replicate_low, List.length_append, List.length_replicate]

theorem count_recoveryActivity (sda : List Bool) :
    (recoveryActivity sda).count .awaitScl = recoveryPulses sda + 1 := by
  have pulses : ∀ n, (List.replicate n recoveryPulse).flatten.count .awaitScl = n := fun n => by
    induction n with
    | zero => rfl
    | succ n ih =>
      rw [List.replicate_succ, List.flatten_cons, List.count_append, ih]
      exact Nat.add_comm 1 n
  simp [recoveryActivity, stopCondition, pulses]

/-! ### Cut short -/

theorem heldAt_of_ne (n : Nat) {a : LineAction} (h : a ≠ .awaitScl) (l : List LineAction) :
    heldAt n (a :: l) = a :: heldAt n l := by
  cases n <;> cases a <;> first | rfl | contradiction

/-- An activity cut short at the n-th release of SCL awaited (R93, R95). -/
theorem heldAt_eq (l : List LineAction) : ∀ n, n < l.count .awaitScl →
    ∃ before later, l = before ++ .awaitScl :: later ∧ before.count .awaitScl = n ∧
      heldAt n l = before ++ [.awaitScl, .releaseSda] := by
  induction l with
  | nil => intro n h; cases h
  | cons a l ih =>
    intro n h
    by_cases ha : a = .awaitScl
    · subst ha
      cases n with
      | zero => exact ⟨[], l, rfl, rfl, rfl⟩
      | succ n =>
        obtain ⟨before, later, hl, hc, hh⟩ := ih n (by simpa using h)
        exact ⟨.awaitScl :: before, later, by simp [hl], by simp [hc], by
          change LineAction.awaitScl :: heldAt n l = _
          rw [hh]; rfl⟩
    · obtain ⟨before, later, hl, hc, hh⟩ := ih n (by
        rwa [List.count_cons_of_ne ha] at h)
      exact ⟨a :: before, later, by simp [hl], by rw [List.count_cons_of_ne ha, hc],
        by rw [heldAt_of_ne n ha, hh]; rfl⟩

/-- Settles O42: the fixed activities by computation, the counts by induction. -/
theorem busBytesAndOutcomes : Obligations.BusBytesAndOutcomes := by
  refine ⟨fun _ _ => rfl, fun _ _ => rfl, fun _ _ _ => rfl, fun _ _ => rfl, by decide,
    count_activity, fun f v => ⟨rfl, endOutcome_refused f v⟩, fun _ => rfl, fun n later h => ?_,
    fun n later h => ?_, count_recoveryActivity, fun n l h => heldAt_eq l n h⟩
  · cases n with
    | zero => rfl
    | succ n => rw [recoveryPulses_low]; simp; omega
  · obtain ⟨m, rfl⟩ : ∃ m, n = m + 1 := ⟨n - 1, by omega⟩
    rw [recoveryPulses_low]
    omega

end Machine
end Sys2Proof
end

section
/-! PROOF. What an engine does with an outcome or a grant leaves the ports alone; the arbiter (R87, R99
to R101). -/

namespace Sys2Proof
namespace Machine

variable {s : State}

/-! ### The shared operations -/

@[simp] theorem logDrift_port (k : DriftKind) (w : Option Byte) (a : Option Half) (e o : Option Byte)
    (q : PortId) :
    (s.logDrift k w a e o).port q = s.port q := port_congr (by simp) (by simp) q
@[simp] theorem logEntry_port (k : DriftKind) (e : Entry) (o : Byte) (q : PortId) :
    (s.logEntry k e o).port q = s.port q := port_congr (by simp) (by simp) q
@[simp] theorem logAlias_port (k : DriftKind) (a : Fin 16) (q : PortId) :
    (s.logAlias k a).port q = s.port q := port_congr (by simp) (by simp) q
@[simp] theorem logPort_port (k : DriftKind) (p : PortId) (q : PortId) :
    (s.logPort k p).port q = s.port q := port_congr (by simp) (by simp) q
@[simp] theorem setTarget_port (a : Fin 16) (x : Option Target) (q : PortId) :
    (s.setTarget a x).port q = s.port q := port_congr (by simp) (by simp) q
@[simp] theorem modifyTarget_port (a : Fin 16) (f : Target → Target) (q : PortId) :
    (s.modifyTarget a f).port q = s.port q := port_congr (by simp) (by simp) q
@[simp] theorem claimTarget_port (a : Fin 16) (eng : Engine) (q : PortId) :
    (s.claimTarget a eng).port q = s.port q := port_congr (by simp) (by simp) q
@[simp] theorem modifyEntry_port (k : Key) (f : Entry → Entry) (q : PortId) :
    (s.modifyEntry k f).port q = s.port q := port_congr (by simp) (by simp) q
@[simp] theorem markStale_port (k : Key) (q : PortId) :
    (s.markStale k).port q = s.port q := port_congr (by simp) (by simp) q
@[simp] theorem startPacing_port (q : PortId) :
    (s.startPacing).port q = s.port q := port_congr (by simp) (by simp) q
@[simp] theorem finish_port (r : Completion) (q : PortId) :
    (s.finish r).port q = s.port q := port_congr (by simp) (by simp) q
@[simp] theorem setCommand_port (c : Staged) (g : Progress) (q : PortId) :
    (s.setCommand c g).port q = s.port q := port_congr (by simp) (by simp) q
@[simp] theorem setRepair_port (r : Repair) (q : PortId) :
    (s.setRepair r).port q = s.port q := port_congr (by simp) (by simp) q
@[simp] theorem setRestore_port (eng : Engine) (p : RestoreProgress) (q : PortId) :
    (s.setRestore eng p).port q = s.port q := port_congr (by simp) (by simp) q
@[simp] theorem endRestore_port (eng : Engine) (p : RestoreProgress) (b : Bool) (q : PortId) :
    (s.endRestore eng p b).port q = s.port q := port_congr (by simp) (by simp) q
@[simp] theorem takeCompare_port (e : Entry) (v : Byte) (q : PortId) :
    (s.takeCompare e v).port q = s.port q := port_congr (by simp) (by simp) q
@[simp] theorem takeRepairVerify_port (e : Entry) (v : Byte) (q : PortId) :
    (s.takeRepairVerify e v).port q = s.port q := port_congr (by simp) (by simp) q
@[simp] theorem takeApplyVerify_port (e : Entry) (v : Byte) (q : PortId) :
    (s.takeApplyVerify e v).port q = s.port q := port_congr (by simp) (by simp) q
@[simp] theorem report_port (a : Fin 16) (p : PortId) (b : BitVec 7) (o : BusOutcome) (q : PortId) :
    (s.report a p b o).port q = s.port q := port_congr (by simp) (by simp) q
@[simp] theorem takeDetection_port (e : Entry) (v : Byte) (eng : Engine) (q : PortId) :
    (s.takeDetection e v eng).port q = s.port q := port_congr (by simp) (by simp) q

/-! ### Restore and repair -/

@[simp] theorem completeRestore_port (eng : Engine) (p : RestoreProgress) (q : PortId) :
    (s.completeRestore eng p).port q = s.port q := by simp [State.completeRestore]
@[simp] theorem abandonRestore_port (eng : Engine) (p : RestoreProgress) (q : PortId) :
    (s.abandonRestore eng p).port q = s.port q := by simp [State.abandonRestore]
@[simp] theorem restoreNext_port (eng : Engine) (p : RestoreProgress) (q : PortId) :
    (s.restoreNext eng p).1.port q = s.port q := by
  unfold State.restoreNext State.restoreMarkerPhase State.beginRestoreStep
  split
  · simp
  · dsimp only; split <;> simp
@[simp] theorem restoreGoOn_port (eng : Engine) (p : RestoreProgress) (q : PortId) :
    (s.restoreGoOn eng p).1.port q = s.port q := by
  unfold State.restoreGoOn
  split
  · simp
  · split <;> simp
@[simp] theorem restoreOutcome_port (eng : Engine) (p : RestoreProgress) (o : BusOutcome)
    (q : PortId) : (s.restoreOutcome eng p o).1.port q = s.port q := by
  unfold State.restoreOutcome
  split
  · rfl
  · split
    · split <;> simp
    · cases eng <;> simp [State.endRestoreStep, State.restoreWrote]
@[simp] theorem skipRestoreStep_port (p : RestoreProgress) (k : Key) (q : PortId) :
    (s.skipRestoreStep p k).1.port q = s.port q := by simp [State.skipRestoreStep]

@[simp] theorem abandonRepair_port (q : PortId) : s.abandonRepair.port q = s.port q := by
  unfold State.abandonRepair
  split <;> simp [State.repairingDrifted]
@[simp] theorem repairStepOutcome_port (k : Key) (r : Repair) (o : BusOutcome) (q : PortId) :
    (s.repairStepOutcome k r o).1.port q = s.port q := by
  unfold State.repairStepOutcome
  split <;> (try split) <;> simp
@[simp] theorem afterRepairVerify_port (k : Key) (v : Byte) (q : PortId) :
    (s.afterRepairVerify k v).1.port q = s.port q := by
  unfold State.afterRepairVerify
  split
  · split
    · split <;> simp
    · simp
  · simp
@[simp] theorem repairVerifyOutcome_port (k : Key) (o : BusOutcome) (q : PortId) :
    (s.repairVerifyOutcome k o).1.port q = s.port q := by
  unfold State.repairVerifyOutcome
  split
  · split
    · simp
    · split <;> simp
  · simp
@[simp] theorem repairOutcome_port (k : Key) (r : Repair) (o : BusOutcome) (q : PortId) :
    (s.repairOutcome k r o).1.port q = s.port q := by
  unfold State.repairOutcome
  split <;> simp

/-! ### The engines -/

@[simp] theorem afterCompare_port (k : Key) (v : Byte) (q : PortId) :
    (s.afterCompare k v).1.port q = s.port q := by
  unfold State.afterCompare State.beginRepair
  split
  · split
    · simp
    · split
      · exact port_congr rfl rfl q
      · split <;> simp
  · simp
@[simp] theorem scrubDetection_port (e : Entry) (v : Byte) (q : PortId) :
    (s.scrubDetection e v).1.port q = s.port q := by
  unfold State.scrubDetection
  split
  · dsimp only
    rw [restoreGoOn_port]
    exact port_congr (by simp) (by simp) q
  · simp
@[simp] theorem scrubReadOutcome_port (k : Key) (o : BusOutcome) (q : PortId) :
    (s.scrubReadOutcome k o).1.port q = s.port q := by
  unfold State.scrubReadOutcome
  split
  · split
    · simp
    · split
      · split <;> simp
      · simp
  · simp
@[simp] theorem scrubOutcome_port (o : BusOutcome) (q : PortId) :
    (s.scrubOutcome o).1.port q = s.port q := by
  unfold State.scrubOutcome
  split <;> simp

@[simp] theorem probeOutcome_port (c : Staged) (o : BusOutcome) (q : PortId) :
    (s.probeOutcome c o).port q = s.port q := by
  unfold State.probeOutcome
  split <;> simp
@[simp] theorem directOutcome_port (c : Staged) (o : BusOutcome) (q : PortId) :
    (s.directOutcome c o).port q = s.port q := by
  unfold State.directOutcome
  split <;> simp
@[simp] theorem applyEndsFailed_port (c : Staged) (x : Status) (q : PortId) :
    (s.applyEndsFailed c x).port q = s.port q := by
  simp [State.applyEndsFailed, State.applyFailed]
@[simp] theorem applyEndsVerified_port (c : Staged) (v : Byte) (q : PortId) :
    (s.applyEndsVerified c v).port q = s.port q := by
  unfold State.applyEndsVerified
  split <;> simp
@[simp] theorem applyOutcome_port (c : Staged) (x : WriteStep) (b : Option Byte) (o : BusOutcome)
    (q : PortId) : (s.applyOutcome c x b o).1.port q = s.port q := by
  unfold State.applyOutcome
  dsimp only
  split <;> (try split) <;> simp
@[simp] theorem verifyGoOn_port (c : Staged) (v : VerifyProgress) (q : PortId) :
    (s.verifyGoOn c v).1.port q = s.port q := by
  unfold State.verifyGoOn State.endVerify
  dsimp only
  split <;> (try split) <;> (try split) <;> simp
@[simp] theorem verifyOutcome_port (c : Staged) (v : VerifyProgress) (o : BusOutcome) (q : PortId) :
    (s.verifyOutcome c v o).1.port q = s.port q := by
  unfold State.verifyOutcome State.verifyDetection State.endVerify
  split
  · rfl
  · split
    · split
      · split
        · simp
        · split <;> simp
      · simp
    · simp
    · simp
@[simp] theorem executorOutcome_port (o : BusOutcome) (q : PortId) :
    (s.executorOutcome o).1.port q = s.port q := by
  unfold State.executorOutcome
  split
  · rfl
  · split <;> simp

/-! ### Delivery and grant -/

@[simp] theorem deliver_port (p : PortId) (f : Flight) (o : BusOutcome) (q : PortId) :
    (s.deliver p f o).1.port q = s.port q := by
  unfold State.deliver
  split <;> (try split) <;> simp

@[simp] theorem outcomeOf_port (p : PortId) (f : Flight) (o : BusOutcome) (q : PortId) :
    (s.outcomeOf p f o).1.port q = s.port q := by
  unfold State.outcomeOf
  split <;> simp

/-- A request that the Scrub Engine withdraws at grant leaves the ports alone. -/
theorem formScrub_port {p : PortId} {r : Reaction} (h : s.formScrub p = .withdrawn r) (q : PortId) :
    r.1.port q = s.port q := by
  have formed (f : Option Flight) {r : Reaction} (h : s.formedOr f = .withdrawn r) :
      r.1.port q = s.port q := by
    unfold State.formedOr at h
    split at h <;> cases h
    rfl
  have repair (k : Key) (g : Repair) (h : s.formRepair p k g = .withdrawn r) :
      r.1.port q = s.port q := by
    unfold State.formRepair at h
    split at h
    · cases h; simp
    · split at h
      · exact formed _ h
      · cases h; simp
  unfold State.formScrub at h
  split at h
  · unfold State.formScrubRead at h
    split at h
    · cases h; simp
    · exact formed _ h
  · exact repair _ _ h
  · exact repair _ _ h
  · unfold State.formScrubRestore at h
    split at h
    · cases h; rfl
    · split at h
      · cases h; simp
      · split at h
        · cases h; simp
        · exact formed _ h
  · cases h; rfl

/-- The executor withdraws no request (R121). -/
theorem formExecutor_withdrawn {p : PortId} {r : Reaction} (h : s.formExecutor p = .withdrawn r) :
    r = (s, []) := by
  unfold State.formExecutor State.formedOr at h
  split at h <;> cases h
  rfl

/-! ### The arbiter -/

@[simp] theorem setPort_isQuarantined (p : PortId) (x : Port) (a : Fin 16) :
    (s.setPort p x).isQuarantined a = s.isQuarantined a := by
  simp [State.isQuarantined, State.target]

/-- What the arbiter chooses of the executor's request and the Scrub Engine's (R99). -/
theorem choose_eq {x : Port} {r : Request} (hr : r ≠ .scrub) :
    (x.waiting = [r] → x.choose = some r) ∧ (x.waiting = [.scrub] → x.choose = some .scrub) ∧
    (x.waiting = [r, .scrub] ∨ x.waiting = [.scrub, r] →
      x.choose = some (if 4 ≤ x.passedOver then .scrub else r)) := by
  refine ⟨fun h => ?_, fun h => ?_, fun h => ?_⟩
  · simp [Port.choose, h, hr, hr.symm]
  · simp [Port.choose, h]
  · by_cases passed : 4 ≤ x.passedOver
    · rcases h with h | h <;> simp [Port.choose, h, hr, Config.passedOverLimit, passed]
    · rcases h with h | h <;> simp [Port.choose, h, hr, Config.passedOverLimit, passed]

/-- A launch puts this transaction on the bus, and none for a QUARANTINED target (R101). -/
theorem launch_flight {p : PortId} {f g : Flight} (idle : (s.port p).flight = none)
    (h : ((s.launch p f).1.port p).flight = some g) : g = f ∧ s.isQuarantined f.aliasNo = false := by
  unfold State.launch at h
  split at h
  · rw [deliver_port, idle] at h; cases h
  · rename_i sound
    simp only [port_setPort, Option.some.injEq] at h
    exact ⟨h.symm, by simpa using sound⟩

theorem grantScrub_flight {p : PortId} {g : Flight} (idle : (s.port p).flight = none)
    (h : ((s.grantScrub p).1.port p).flight = some g) : s.isQuarantined g.aliasNo = false := by
  unfold State.grantScrub at h
  dsimp only at h
  split at h
  · rename_i r hr
    rw [formScrub_port hr, port_setPort, idle] at h
    cases h
  · obtain ⟨rfl, sound⟩ := launch_flight (by simpa using idle) h
    simpa using sound

/-- No grant puts a transaction for a QUARANTINED target on the bus (R101). -/
theorem grant_flight {p : PortId} {g : Flight} (idle : (s.port p).flight = none)
    (h : ((s.grant p).1.port p).flight = some g) : s.isQuarantined g.aliasNo = false := by
  unfold State.grant at h
  split at h
  · rw [idle] at h; cases h
  · exact grantScrub_flight idle h
  · simp [State.startRounds] at h
  · dsimp only at h
    split at h
    · rename_i r hr
      rw [formExecutor_withdrawn hr, port_setPort] at h
      simp [Port.grantExecutor, idle] at h
    · obtain ⟨rfl, sound⟩ := launch_flight (by simpa [Port.grantExecutor] using idle) h
      simpa using sound

theorem launch_passedOver {p : PortId} {f : Flight} :
    ((s.launch p f).1.port p).passedOver = (s.port p).passedOver := by
  unfold State.launch
  split <;> simp

/-- Settles O43: the choice by the waiting requests, the count and the look at the target by the
grant. -/
theorem arbiterGrants : Obligations.ArbiterGrants := by
  refine ⟨fun x r hr => ?_, fun s p => ⟨fun f => grant_flight, fun chosen => ?_⟩⟩
  · obtain ⟨one, scrub, both⟩ := choose_eq (x := x) hr
    exact ⟨one, scrub, both, by simp [Port.grantExecutor]⟩
  · have granted : s.grant p = s.grantScrub p := by unfold State.grant; rw [chosen]
    refine ⟨fun f hf => ?_, fun r hr => ?_⟩
    · rw [granted]
      simp only [State.grantScrub, hf, launch_passedOver, port_setPort]
    · rw [granted]
      simp only [State.grantScrub, hr, formScrub_port hr, port_setPort]

end Machine
end Sys2Proof
end

section
/-! PROOF. The Image Table's and the Target Table's answers to reads and outcomes, and the part after an
Interface Reset (R7, R8, R11 to R15, R79 to R81, R178). -/

namespace Sys2Proof
namespace Machine

variable {s : State}

/-! ### Masked comparison -/

theorem and_eq_and_iff {v x m : Byte} : v &&& m = x &&& m ↔
    ∀ i, i < 8 → m.getLsbD i = true → v.getLsbD i = x.getLsbD i := by
  constructor
  · intro h i _ hm
    have := congrArg (·.getLsbD i) h
    simpa [hm] using this
  · intro h
    refine BitVec.eq_of_getLsbD_eq fun i hi => ?_
    rw [BitVec.getLsbD_and, BitVec.getLsbD_and]
    cases hm : m.getLsbD i with
    | false => simp
    | true => rw [h i hi hm]

theorem matchesValue_iff {e : Entry} {v : Byte} :
    e.matchesValue v = true ↔ v &&& e.mask = e.expected &&& e.mask := by simp [Entry.matchesValue]

theorem atResetValue_iff {e : Entry} {v : Byte} : e.atResetValue v = true ↔
    e.cls = .marker ∧ ∃ r, e.resetValue = some r ∧ v &&& e.mask = r &&& e.mask := by
  unfold Entry.atResetValue
  cases e.cls <;> cases e.resetValue <;> simp

theorem getLsbD_writeValue (e : Entry) (base : Byte) {i : Nat} (hi : i < 8) :
    (e.writeValue (some base)).getLsbD i =
      if e.mask.getLsbD i then e.expected.getLsbD i else base.getLsbD i := by
  unfold Entry.writeValue
  split
  · rename_i full
    have : (0xFF : Byte).getLsbD i = true := by interval_cases i <;> rfl
    rw [full, if_pos this]
  · rw [BitVec.getLsbD_eq_getElem hi]
    cases hm : e.mask[i] <;> simp [hm, hi]

/-- Settles O44: bit by bit. -/
theorem matchAndMergedWrite : Obligations.MatchAndMergedWrite := by
  intro e v base
  refine ⟨matchesValue_iff.trans and_eq_and_iff, atResetValue_iff.trans ?_,
    fun i hi => getLsbD_writeValue e base hi, fun full => by simp [Entry.writeValue, full], ?_⟩
  · simp only [and_eq_and_iff]
  · rw [matchesValue_iff, and_eq_and_iff]
    intro i hi hm
    rw [getLsbD_writeValue e base hi, if_pos hm]

/-! ### What a read makes of an entry -/

/-- In key order, a change of the entry of a key puts one entry in the place of another. -/
theorem modifyEntry_eq (hs : KeysRise s.image.entries) {e : Entry} (he : e ∈ s.image.entries)
    (f : Entry → Entry) : s.modifyEntry e.key f = { s with image := { s.image with
      entries := s.image.entries.map fun y => if y.key = e.key then f e else y } } := by
  have : s.image.entries.map (fun y => if y.key = e.key then f y else y) =
      s.image.entries.map (fun y => if y.key = e.key then f e else y) := by
    refine List.map_congr_left fun y hy => ?_
    split
    · rename_i hk; rw [hs.unique hy he hk]
    · rfl
  unfold State.modifyEntry
  rw [this]

/-- Settles O45: by the entry's state and the comparison. -/
theorem readResultsMoveTheEntry : Obligations.ReadResultsMoveTheEntry := by
  intro s e v hs he
  have put := modifyEntry_eq hs he
  refine ⟨?_, fun repairing => ?_, ?_⟩
  · unfold State.takeCompare
    simp only [put]
    cases e.state <;> cases e.matchesValue v <;> rfl
  · unfold State.takeRepairVerify
    simp only [put, repairing]
    rfl
  · unfold State.takeApplyVerify Entry.compared
    simp only [put]
    by_cases hc : e.cls = .restoreOnly
    · rw [if_pos (by simp [hc]), if_pos hc]
    · rw [if_neg (by simp [hc]), if_neg hc]
      cases e.matchesValue v <;> rfl

/-! ### Outcome reports -/

theorem quarantineCount_setTarget {a : Fin 16} {x y : Target} (attached : s.target a = some x)
    (sound : x.state ≠ .quarantined) (quarantined : y.state = .quarantined) :
    (s.setTarget a (some y)).quarantineCount = s.quarantineCount + 1 := by
  have here : s.targets.toList[a.val]'(by simp) = some x := by simpa [State.target] using attached
  unfold State.quarantineCount State.setTarget
  rw [Vector.toList_set, List.countP_set (by simp), here]
  simp [sound, quarantined]

/-- Settles O46: by the outcome. -/
theorem reportsAreCounted : Obligations.ReportsAreCounted := by
  intro s a p b o
  refine ⟨fun other => report_uncounted fun t ht h => ?_, fun x hx hp hb => ?_⟩
  · exact (other t ht).elim (fun h' => h' h.1) fun h' => h' h.2
  · have counted : s.report a p b o = match o with
        | .done _ => s.setTarget a (some { x with failures := 0 })
        | .withheld => s
        | _ => s.countFailure a x := by
      unfold State.report
      simp only [hx, hp, hb]
      cases o <;> rfl
    refine ⟨fun v ho => ?_, fun ho => ?_, fun failed held => ?_⟩
    · rw [counted, ho]; rfl
    · rw [counted, ho]
    · have failure : s.report a p b o = s.countFailure a x := by
        rw [counted]
        cases o <;> first | rfl | contradiction
      rw [failure]
      unfold State.countFailure
      dsimp only
      have count : (failedOnce x).failures = min (x.failures + 1) 15 := rfl
      rw [count]
      refine ⟨fun sound reached => ?_, fun below => ?_⟩
      · rw [if_pos (by rw [decide_eq_true reached]; simpa using sound)]
        exact ⟨rfl, quarantineCount_setTarget hx sound rfl⟩
      · rw [if_neg]
        · rfl
        · rcases below with h | h
          · simp [h]
          · rw [decide_eq_false (Nat.not_le.2 h)]; simp

/-! ### Interface Reset -/

theorem exec_interfaceReset (running : s.resetnLow = false) (code : BitVec 4) :
    exec (.interfaceReset code) s = .next s.interfaceReset := by
  rw [exec, execInterfaceReset, whileRunning_running running]
  rfl

theorem entryAtInterfaceReset_eq (e : Entry) : entryAtInterfaceReset e =
    { e with state := if e.state = .pending then .unseen
                      else if e.state = .repairing then .drifted else e.state } := by
  unfold entryAtInterfaceReset
  obtain ⟨_, _, _, _, _, _, state, _, _, _⟩ := e
  cases state <;> rfl

theorem interfaceReset_entry (k : Key) :
    s.interfaceReset.entry k = (s.entry k).map entryAtInterfaceReset := by
  unfold State.entry State.interfaceReset
  dsimp only
  rw [List.find?_map]
  congr 1
  refine congrArg (List.find? · s.image.entries) (funext fun e => ?_)
  simp [(entryAtInterfaceReset_fields e).1]

theorem interfaceReset_port (p : PortId) :
    s.interfaceReset.port p = portAtInterfaceReset (s.port p) := by cases p <;> rfl

theorem interfaceReset_quarantined (a : Fin 16) :
    (∃ x, s.interfaceReset.target a = some x ∧ x.state = .quarantined) ↔
      ∃ x, s.target a = some x ∧ x.state = .quarantined := by
  rw [interfaceReset_target]
  cases s.target a with
  | none => simp
  | some x =>
    simp only [Option.map_some, Option.some.injEq, exists_eq_left', targetAtInterfaceReset]
    split
    · rename_i h; simp [h]
    · rfl

theorem interfaceReset_faultAsserted : s.interfaceReset.faultAsserted = s.faultAsserted := by
  rw [Bool.eq_iff_iff, faultAsserted_iff, faultAsserted_iff]
  simp only [interfaceReset_port, interfaceReset_quarantined]
  rfl

/-- Settles O5: block by block. -/
theorem interfaceResetEffects : Obligations.InterfaceResetEffects := by
  intro code s running
  have reset := exec_interfaceReset running code
  have done := doneFlag_interfaceReset running reset
  refine ⟨_, reset, fun k => ?_, by simp [State.interfaceReset], rfl, rfl, rfl, rfl,
    interfaceReset_target, rfl, rfl, rfl, rfl, rfl, interfaceReset_port,
    fun x => ⟨?_, done x, disableFlag_interfaceReset running reset x⟩, irqReleased_of_notDone done,
    interfaceReset_faultAsserted, rfl, rfl, rfl, running, rfl, rfl⟩
  · rw [interfaceReset_entry]
    exact congrArg (Option.map · (s.entry k)) (funext entryAtInterfaceReset_eq)
  · cases x <;> rfl

end Machine
end Sys2Proof
end

section
/-! PROOF. The SCRUB section, the QUIET input and the Pacing Timer: passes, the search, and the end of a
hold (R25 to R36, R38, R46, R48, R51, R111). -/

namespace Sys2Proof
namespace Machine

variable {s t : State}

/-! ### Requests at a free port -/

/-- A request of the Scrub Engine at a free port puts what it forms on the bus (R100, R101). -/
theorem settled_scrub_inFlight {p : PortId} {f : Flight} (rest : s.atRest = true)
    (free : s.portFree p = true) (formed : s.formScrub p = .formed f) (own : f.requester = .scrub)
    (sound : s.isQuarantined f.aliasNo = false) : settled (s, [(p, .scrub)]) = s.inFlight p f := by
  rw [settled_scrub_launch rest free formed sound, State.inFlight, own]

/-- A request of the executor at a free port puts what it forms on the bus (R99, R101). -/
theorem settled_executor_inFlight {p : PortId} {f : Flight} (rest : s.atRest = true)
    (free : s.portFree p = true) (formed : s.executorFlight p = some f)
    (own : f.requester = .executor) (sound : s.isQuarantined f.aliasNo = false) :
    settled (s, [(p, .executor)]) = s.inFlight p f := by
  rw [settled_executor_launch rest free formed sound, State.inFlight, own]

theorem formFor_eq {a : Fin 16} {x : Target} (attached : s.target a = some x) (p : PortId)
    (eng : Engine) (f : Width → Form) :
    s.formFor p eng a f = some (formedFlight eng a x.busAddr (s.busTiming p) (f x.width)) := by
  rw [State.formFor, attached]; rfl

theorem placeFor_eq {a : Fin 16} {x : Target} (attached : s.target a = some x) (r : Request) :
    s.placeFor a r = [(x.port, r)] := by
  unfold State.placeFor; rw [attached]

theorem isRestoredBy_eq {a : Fin 16} {x : Target} (attached : s.target a = some x) (eng : Engine) :
    s.isRestoredBy a eng = (x.state == .restoring && x.restorer == some eng) := by
  unfold State.isRestoredBy; rw [attached]

theorem isOnline_eq {a : Fin 16} {x : Target} (attached : s.target a = some x) :
    s.isOnline a = (x.state == .online) := by
  unfold State.isOnline; rw [attached]

/-- A scrub read at the free port of an ONLINE target goes onto the bus (R38). -/
theorem settled_scrubRead {p : PortId} {k : Key} {x : Target} (rest : s.atRest = true)
    (free : s.portFree p = true) (reading : s.scrub.state = .readWait)
    (current : s.scrub.current = some k) (fresh : s.scrub.stale = false)
    (attached : s.target k.aliasNo = some x) (online : x.state = .online) :
    settled (s, [(p, .scrub)]) = s.inFlight p
      (formedFlight .scrub k.aliasNo x.busAddr (s.busTiming p) (.read k.addr x.width)) := by
  refine settled_scrub_inFlight rest free ?_ rfl (by
    rw [formedFlight, isQuarantined_eq attached, online]; rfl)
  simp only [State.formScrub, reading, current, State.formScrubRead, fresh, isRestoredBy_eq attached,
    online, formFor_eq attached, State.formedOr]
  rfl

/-! ### Passes and the search -/

/-- A self-check that finds no difference counts, and the search follows (R28, R111). -/
theorem startPass_passes (h : s.selfCheckPasses) : s.startPass = s.checked.search := by
  unfold State.startPass State.checked
  cases hr : s.image.reference with
  | none => rw [if_neg (by simp)]
  | some ref => simp only [Option.isSome_some, if_true, h ref hr]

/-- A self-check that finds a difference stops the engine (R28, R111). -/
theorem startPass_differs {ref : Half} (present : s.image.reference = some ref)
    (differs : ref ≠ s.image.signature) : s.startPass = (State.tableFaultStop
      { s with image := { s.image with checks := s.image.checks + 1 } } ref, []) := by
  unfold State.startPass
  simp only [present, if_neg differs]

theorem proceed_start (start : s.scrub.cursor = none) : s.proceed = s.startPass := by
  simp only [State.proceed, start]

/-- The engine proceeds with the search; at "start" the self-check comes first (R32, R33). -/
theorem proceed_passes (h : s.scrub.cursor = none → s.selfCheckPasses) :
    s.proceed = (if s.scrub.cursor = none then s.checked else s).search := by
  unfold State.proceed
  split
  · rename_i hc; rw [if_pos hc, startPass_passes (h hc)]
  · rename_i k hc; rw [if_neg (by simp [hc])]

/-- A search that finds no eligible entry ends the pass (R25, R29). -/
theorem search_ends (h : ∀ e ∈ s.image.entries, keyAbove s.scrub.cursor e.key = true →
    s.eligible e = false) : s.search = (s.endPass, []) := by
  have none : s.nextEntry s.scrub.cursor s.eligible = none := by
    refine List.find?_eq_none.2 fun e he => ?_
    by_cases hk : keyAbove s.scrub.cursor e.key = true
    · simp [h e he hk]
    · simp [hk]
  simp only [State.search, none]

/-- The Scrub Engine at the search that takes an entry (R26). -/
def ScrubEngine.taking (x : ScrubEngine) (k : Key) : ScrubEngine :=
  { x with state := .readWait, cursor := some k, current := some k, stale := false }

/-- A search that finds an entry reads it: the read goes onto the free port (R25, R26, R38). -/
theorem settled_search_takes {e : Entry} {x : Target} (rest : s.atRest = true)
    (attached : s.target e.key.aliasNo = some x) (free : s.portFree x.port = true)
    (found : s.nextEntry s.scrub.cursor s.eligible = some e) :
    settled s.search = State.inFlight { s with scrub := s.scrub.taking e.key } x.port
      (formedFlight .scrub e.key.aliasNo x.busAddr (s.busTiming x.port)
        (.read e.key.addr x.width)) := by
  have online : x.state = .online := by
    have := (nextEntry_some found).2.2
    simp only [State.eligible, isOnline_eq attached, Bool.and_eq_true, beq_iff_eq] at this
    exact this.1.2
  have taken : s.search = ({ s with scrub := s.scrub.taking e.key }, [(x.port, .scrub)]) := by
    simp only [State.search, found, State.takeEntry]
    exact congrArg (Prod.mk _) (placeFor_eq attached .scrub)
  rw [taken]
  exact settled_scrubRead ((atRest_congr rfl rfl).trans rest) free rfl rfl rfl attached online

/-! ### The three moments -/

theorem exec_scrubStart (running : s.resetnLow = false) (idle : s.scrub.state = .idle) :
    exec .scrubStart s = .next (settled s.startScrub) := by
  rw [exec, execScrubStart, whileRunning_running running, if_pos idle]

theorem startScrub_startPass (released : s.quiet = false) :
    s.startScrub = (s.scrubIdle false).startPass := by
  unfold State.startScrub
  dsimp only
  rw [if_neg (by simp [released])]

theorem exec_pacingExpiry (running : s.resetnLow = false) (pacing : s.scrub.state = .pacing)
    (timer : s.scrub.timer.isSome = true) : exec .pacingExpiry s = .next (settled s.expire) := by
  rw [exec, execPacingExpiry, whileRunning_running running, if_pos ⟨pacing, timer⟩]

theorem expire_proceed (go : s.scrub.stopRequested = false) (released : s.quiet = false) :
    s.expire = State.proceed { s with scrub := { s.scrub with timer := none } } := by
  unfold State.expire
  rw [if_neg (by simp [go]), if_neg (by simp [released])]

theorem exec_quietRelease (running : s.resetnLow = false) (quiet : s.scrub.state = .quiet) :
    exec .quietRelease s = .next (settled (State.proceed { s with quiet := false })) := by
  rw [exec, execQuietRelease, whileRunning_running (s := { s with quiet := false }) running,
    if_pos quiet]

theorem settled_startPass_differs {ref : Half} (rest : s.atRest = true)
    (present : s.image.reference = some ref) (differs : ref ≠ s.image.signature) :
    settled s.startPass = State.tableFaultStop
      { s with image := { s.image with checks := s.image.checks + 1 } } ref := by
  rw [startPass_differs present differs]
  exact settled_atRest ((atRest_congr rfl rfl).trans rest)

/-- Settles O9: the three moments of a pass start. -/
theorem selfCheckStopsThePass : Obligations.SelfCheckStopsThePass := by
  intro s ref running rest present differs stopped
  refine ⟨fun idle released => ?_, fun pacing timer start go released => ?_, fun quiet start => ?_⟩
  · rw [exec_scrubStart running idle, startScrub_startPass released,
      settled_startPass_differs (s := s.scrubIdle false) ((atRest_congr rfl rfl).trans rest) present
        differs]
    rfl
  · let u : State := { s with scrub := { s.scrub with timer := none } }
    rw [exec_pacingExpiry running pacing timer, expire_proceed go released, proceed_start (s := u) start,
      settled_startPass_differs (s := u) ((atRest_congr rfl rfl).trans rest) present differs]
    rfl
  · let u : State := { s with quiet := false }
    rw [exec_quietRelease running quiet, proceed_start (s := u) start,
      settled_startPass_differs (s := u) ((atRest_congr rfl rfl).trans rest) present differs]
    rfl

theorem settled_search_ends (rest : s.atRest = true) (h : ∀ e ∈ s.image.entries,
    keyAbove s.scrub.cursor e.key = true → s.eligible e = false) : settled s.search = s.endPass := by
  rw [search_ends h, settled_atRest]
  unfold State.endPass
  dsimp only
  split <;> exact (atRest_congr rfl rfl).trans rest

/-- The state after a pass has ended (R29). -/
theorem endPass_eq : s.endPass = if s.settings.scrubMode != 1 then
    { s with
      scrub := { State.reset.scrub with passCount := s.scrub.passCount + 1 }
      sections := { s.sections with scrubDone := true } }
    else State.paced
      { s with scrub := { s.scrub with cursor := none, passCount := s.scrub.passCount + 1 } } := by
  unfold State.endPass Settings.continuous bne
  dsimp only
  cases s.settings.scrubMode == 1 <;> rfl

theorem settled_proceed_ends (rest : s.atRest = true)
    (barren : ∀ e ∈ s.image.entries, keyAbove s.scrub.cursor e.key = true → s.eligible e = false)
    (passes : s.scrub.cursor = none → s.selfCheckPasses) :
    settled s.proceed = (if s.scrub.cursor = none then s.checked else s).endPass := by
  rw [proceed_passes passes]
  split
  · exact settled_search_ends (s := s.checked) ((atRest_congr rfl rfl).trans rest) barren
  · exact settled_search_ends rest barren

/-- Settles O10: the three moments of a search. -/
theorem passEndsWhenNothingIsEligible : Obligations.PassEndsWhenNothingIsEligible := by
  intro s running rest barren passes single stopped t ended
  refine ⟨fun idle start released => ?_, fun pacing timer go released => ?_, fun quiet => ?_⟩
  · let u : State := s.scrubIdle false
    rw [exec_scrubStart running idle, startScrub_startPass released,
      startPass_passes (s := u) (passes start),
      settled_search_ends (s := u.checked) ((atRest_congr rfl rfl).trans rest)
        (fun e he hk => barren e he (by rw [start]; exact hk)), endPass_eq]
    change Host.Outcome.next (if single = true then _ else _) = _
    split <;> rfl
  · let u : State := { s with scrub := { s.scrub with timer := none } }
    rw [exec_pacingExpiry running pacing timer, expire_proceed go released,
      settled_proceed_ends (s := u) ((atRest_congr rfl rfl).trans rest) barren passes]
    by_cases start : s.scrub.cursor = none
    · rw [if_pos (show u.scrub.cursor = none from start), endPass_eq]
      simp only [ended, t, if_pos start]
      rfl
    · rw [if_neg (show ¬u.scrub.cursor = none from start), endPass_eq]
      simp only [ended, t, if_neg start]
      rfl
  · let u : State := { s with quiet := false }
    rw [exec_quietRelease running quiet,
      settled_proceed_ends (s := u) ((atRest_congr rfl rfl).trans rest) barren passes]
    by_cases start : s.scrub.cursor = none
    · rw [if_pos (show u.scrub.cursor = none from start), endPass_eq]
      simp only [ended, t, if_pos start]
      change Host.Outcome.next (if single = true then _ else _) = _
      split <;> rfl
    · rw [if_neg (show ¬u.scrub.cursor = none from start), endPass_eq]
      simp only [ended, t, if_neg start]
      change Host.Outcome.next (if single = true then _ else _) = _
      split <;> rfl

/-- Settles O11: the three moments of a search. -/
theorem searchTakesTheNextEntry : Obligations.SearchTakesTheNextEntry := by
  intro s e x running rest attached free read
  refine ⟨fun idle released passes found => ?_, fun passes found => ?_⟩
  · let u : State := s.scrubIdle false
    rw [exec_scrubStart running idle, startScrub_startPass released, startPass_passes (s := u) passes,
      settled_search_takes (s := u.checked) ((atRest_congr rfl rfl).trans rest) attached free found]
    rfl
  intro t
  refine ⟨fun pacing timer go released => ?_, fun quiet => ?_⟩
  · let u : State := { s with scrub := { s.scrub with timer := none } }
    rw [exec_pacingExpiry running pacing timer, expire_proceed go released,
      proceed_passes (s := u) passes]
    by_cases start : s.scrub.cursor = none
    · simp only [t, if_pos start]
      rw [if_pos (show u.scrub.cursor = none from start), settled_search_takes (s := u.checked) ((atRest_congr rfl rfl).trans rest) attached free found]
      rfl
    · simp only [t, if_neg start]
      rw [if_neg (show ¬u.scrub.cursor = none from start), settled_search_takes (s := u) ((atRest_congr rfl rfl).trans rest) attached free found]
      rfl
  · let u : State := { s with quiet := false }
    rw [exec_quietRelease running quiet, proceed_passes (s := u) passes]
    by_cases start : s.scrub.cursor = none
    · simp only [t, if_pos start]
      rw [if_pos (show u.scrub.cursor = none from start), settled_search_takes (s := u.checked) ((atRest_congr rfl rfl).trans rest) attached free found]
      rfl
    · simp only [t, if_neg start]
      rw [if_neg (show ¬u.scrub.cursor = none from start), settled_search_takes (s := u) ((atRest_congr rfl rfl).trans rest) attached free found]
      rfl

/-! ### Stop and QUIET -/

/-- Settles O12: an expiry, a START and the input, each by what the engine finds. -/
theorem stopAndQuietAtTheirMoments : Obligations.StopAndQuietAtTheirMoments := by
  intro s running rest
  refine ⟨fun pacing timer stop => ?_, fun pacing timer go quiet => ?_, fun idle quiet => ?_,
    fun still => ?_, rfl, fun other => ?_⟩
  · rw [exec_pacingExpiry running pacing timer, State.expire, if_pos stop,
      settled_atRest (s := s.scrubIdle false) ((atRest_congr rfl rfl).trans rest)]
    rfl
  · rw [exec_pacingExpiry running pacing timer, State.expire, if_neg (by simp [go]), if_pos quiet,
      settled_atRest (s := s.enterQuiet) ((atRest_congr rfl rfl).trans rest)]
    rfl
  · let u : State := s.scrubIdle false
    rw [exec_scrubStart running idle, State.startScrub]
    dsimp only
    rw [if_pos (show u.quiet = true from quiet),
      settled_atRest (s := u.enterQuiet) ((atRest_congr rfl rfl).trans rest)]
    rfl
  · rw [exec, execPacingExpiry, whileRunning_running running, if_neg]
    rintro ⟨pacing, timer⟩
    rcases still with h | h
    · exact h pacing
    · simp [h] at timer
  · rw [exec, execQuietRelease, whileRunning_running (s := { s with quiet := false }) running,
      if_neg other]

/-! ### The end of a hold -/

theorem modifyEntry_entry {k j : Key} {f : Entry → Entry} (key : ∀ e, (f e).key = e.key) :
    (s.modifyEntry k f).entry j = (s.entry j).map fun e => if e.key = k then f e else e := by
  unfold State.entry
  rw [modifyEntry_entries, List.find?_map]
  congr 1
  refine congrArg (List.find? · s.image.entries) (funext fun e => ?_)
  simp only [Function.comp_apply]
  split <;> simp [key]

/-- A repair's transaction at the free port of an ONLINE target goes onto the bus, formed from the
entry as it stands (R52). -/
theorem settled_repair {p : PortId} {k : Key} {r : Repair} {e : Entry} {x : Target} (rest : s.atRest = true)
    (free : s.portFree p = true)
    (repairing : s.scrub.state = .repairWait ∨ s.scrub.state = .verifyWait)
    (current : s.scrub.current = some k) (under : s.scrub.repair = some r)
    (fresh : s.scrub.stale = false) (found : s.entry k = some e)
    (attached : s.target k.aliasNo = some x) (online : x.state = .online) :
    settled (s, [(p, .scrub)]) = s.inFlight p
      (formedFlight .scrub k.aliasNo x.busAddr (s.busTiming p)
        (writeStepForm r.step e r.base x.width)) := by
  have repair : s.formRepair p k r = .formed
      (formedFlight .scrub k.aliasNo x.busAddr (s.busTiming p)
        (writeStepForm r.step e r.base x.width)) := by
    simp only [State.formRepair, fresh, isRestoredBy_eq attached, online, found,
      formFor_eq attached, State.formedOr]
    rfl
  refine settled_scrub_inFlight rest free ?_ rfl (by
    rw [formedFlight, isQuarantined_eq attached, online]; rfl)
  rcases repairing with h | h <;> simp only [State.formScrub, h, current, under, repair]

/-- The step at which a repair begins with no value at hand (R51). -/
theorem beginRepair_none {e : Entry} {x : Target} (attached : s.target e.key.aliasNo = some x) :
    s.beginRepair e none =
      ((s.modifyEntry e.key fun y => { y with state := .repairing }).setRepair
        { base := none, step := if e.mask = 0xFF then .write else .baseRead },
       [(x.port, .scrub)]) := by
  have base : repairBase e none = none := by unfold repairBase; split <;> rfl
  have step : (if e.mask ≠ 0xFF ∧ (none : Option Byte) = none then WriteStep.baseRead else .write) =
      if e.mask = 0xFF then .write else .baseRead := by
    by_cases full : e.mask = 0xFF <;> simp [full]
  unfold State.beginRepair
  dsimp only
  rw [base, step]
  exact congrArg (Prod.mk _) (placeFor_eq attached .scrub)

/-- What PULSE does with the held entry (R46). -/
theorem pulseHeld_eq : s.pulseHeld = match s.scrub.current.bind s.entry with
    | some e =>
      if (!s.scrub.stale) = true ∧ e.cls = .hold ∧ e.state = .drifted ∧
          s.isOnline e.key.aliasNo = true then (s.withScrubDone false).beginRepair e none
      else ((s.withScrubDone false).startPacing, [])
    | none => ((s.withScrubDone false).startPacing, []) := rfl

/-- A repair that begins with no value at hand, at the free port of its target (R51). -/
theorem settled_beginRepair_none {e : Entry} {x : Target} (rest : s.atRest = true)
    (current : s.scrub.current = some e.key) (found : s.entry e.key = some e)
    (fresh : s.scrub.stale = false) (attached : s.target e.key.aliasNo = some x)
    (online : x.state = .online) (free : s.portFree x.port = true) :
    settled (s.beginRepair e none) = State.inFlight
      { s with
        image := { s.image with entries := s.image.entries.map fun y =>
          if y.key = e.key then { y with state := .repairing } else y }
        scrub := { s.scrub with
          state := .repairWait
          repair := some { base := none, step := if e.mask = 0xFF then .write else .baseRead } } }
      x.port (formedFlight .scrub e.key.aliasNo x.busAddr (s.busTiming x.port)
        (if e.mask = 0xFF then .write e.key.addr x.width e.expected
         else .read e.key.addr x.width)) := by
  let r : Repair := { base := none, step := if e.mask = 0xFF then .write else .baseRead }
  let t : State := (s.modifyEntry e.key fun y => { y with state := .repairing }).setRepair r
  have waits : t.scrub.state = .repairWait := by
    change (match (if e.mask = 0xFF then WriteStep.write else .baseRead) with
      | .verifyRead => ScrubState.verifyWait
      | .baseRead | .write => .repairWait) = _
    by_cases full : e.mask = 0xFF
    · rw [if_pos full]
    · rw [if_neg full]
  have entry : t.entry e.key = some { e with state := .repairing } := by
    change (s.modifyEntry e.key fun y => { y with state := .repairing }).entry e.key = _
    rw [modifyEntry_entry (f := fun y => { y with state := .repairing }) fun _ => rfl, found]
    simp
  rw [beginRepair_none attached, settled_repair (s := t) (r := r) ((atRest_congr rfl rfl).trans rest)
    free (.inl waits) current rfl fresh entry attached online]
  by_cases full : e.mask = 0xFF
  · simp only [t, r, State.setRepair, if_pos full, writeStepForm, Entry.writeValue]
    rfl
  · simp only [t, r, State.setRepair, if_neg full]
    rfl

/-- Settles O13: the held entry is repaired, or the engine paces on. -/
theorem pulseEndsTheHold : Obligations.PulseEndsTheHold := by
  intro s running rest state held repairable
  have pulse : exec .scrubPulse s = .next (settled s.pulseHeld) := by
    rw [exec, execScrubPulse, whileRunning_running running, if_pos state]
  have paces : settled ((s.withScrubDone false).paced, []) = (s.withScrubDone false).paced :=
    settled_atRest ((atRest_congr rfl rfl).trans rest)
  rw [pulse, pulseHeld_eq]
  refine ⟨fun notRepairable => ?_, fun e x hheld can attached free => ?_⟩
  · cases hheld : s.scrub.current.bind s.entry with
    | none => exact congrArg _ paces
    | some e =>
      dsimp only
      rw [if_neg fun ⟨fresh, rest⟩ => notRepairable e hheld ⟨by simpa using fresh, rest⟩]
      exact congrArg _ paces
  · obtain ⟨k, current, found⟩ := Option.bind_eq_some_iff.1 hheld
    have hk := (entry_some found).2
    obtain ⟨fresh, hold, drifted, online⟩ := can
    rw [show s.scrub.current.bind s.entry = some e from hheld]
    dsimp only
    rw [if_pos ⟨by simpa using fresh, hold, drifted, online⟩,
      settled_beginRepair_none (s := s.withScrubDone false) ((atRest_congr rfl rfl).trans rest)
        (hk ▸ current) (hk ▸ found) fresh attached (by simpa [isOnline_eq attached] using online) free]
    rfl

end Machine
end Sys2Proof
end

section
/-! PROOF. The take of a command and its validation, and the commands that end there or ask a port for
rounds (R98, R115, R117 to R120, R123 to R132, R136, R138, R139, R144, R169). -/

namespace Sys2Proof
namespace Machine

variable {s t : State}

/-! ### COMMAND_TAKE and the row of a kind -/

theorem takeHead_congr {c : Staged} {f g : State → Staged → Reaction} (h : ∀ u, f u c = g u c) :
    s.takeHead c f = s.takeHead c g := by
  unfold State.takeHead; rw [h]

/-- The row of an assigned kind takes its record as COMMAND_TAKE does. -/
theorem exec_rowOf_stagedOf (k : CommandKind) (b : CmdBytes) : exec (rowOf (stagedOf k b)) s =
    s.whileRunning fun s => s.takeHead (stagedOf k b) State.begin := by
  cases k <;> rfl

theorem stagedOf_kindOf {c : Staged} {k : CommandKind} (h : kindOf c.kind = some k) :
    stagedOf k c.body = c := by
  rw [stagedOf, kindCode_of_kindOf h]

/-- The row of a record takes it as COMMAND_TAKE does (R117, R182). -/
theorem exec_rowOf (c : Staged) :
    exec (rowOf c) s = s.whileRunning fun s => s.takeHead c State.begin := by
  cases hk : kindOf c.kind with
  | none =>
    simp only [rowOf, hk, exec, execUnknownKind, if_true]
    exact congrArg s.whileRunning (funext fun u => takeHead_congr fun u => by
      simp only [State.begin, hk])
  | some k =>
    rw [rowOf_eq hk, exec_rowOf_stagedOf, stagedOf_kindOf hk]

theorem rowOf_wellFormed (c : Staged) : (rowOf c).wellFormed = true := by
  cases hk : kindOf c.kind with
  | none => simp [rowOf, hk, Instr.wellFormed]
  | some k => rw [rowOf_eq hk]; cases k <;> rfl

theorem exec_commandTake {c : Staged} (head : s.queue.head? = some c) :
    exec .commandTake s = s.whileRunning fun s => s.takeHead c State.begin := by
  simp only [exec, execCommandTake, State.whileRunning, head]

theorem execCommandTake_idle (h : s.canTake = false) : exec .commandTake s = .next s := by
  rw [exec, execCommandTake, State.whileRunning]
  split
  · rfl
  · split
    · unfold State.takeHead; simp [h]
    · rfl

theorem canTake_false (h : s.command.isSome = true ∨ s.queue = [] ∨ 16 ≤ s.completions.length) :
    s.canTake = false := by
  unfold State.canTake
  rcases h with h | h | h
  · obtain ⟨c, hc⟩ := Option.isSome_iff_exists.1 h; simp [hc]
  · simp [h]
  · rw [decide_eq_false (show ¬s.completions.length < Config.completionCapacity from Nat.not_lt.2 h)]
    simp

/-- A take edits the tables, and goes on as a run of moves of its command. -/
theorem settled_begin_moves (s : State) (c : Staged) : ∃ s0, Edit s c (kindOf c.kind) s0 ∧
    Moves (s0.setCommand c .direct) (settled (s.begin c)) := by
  obtain ⟨s0, edit, moves⟩ := begins_begin (s := s) c
  exact ⟨s0, edit, moves.trans (moves_settled _)⟩

/-- Settles O14: the take by its edit and moves; each row by the record it takes. -/
theorem takeMovesTheQueue : Obligations.TakeMovesTheQueue := by
  refine ⟨fun c s running due head => ?_, fun s h => execCommandTake_idle (canTake_false h),
    fun c s head => ⟨(exec_commandTake head).trans (exec_rowOf c).symm, rowOf_wellFormed c⟩⟩
  obtain ⟨s0, edit, moves⟩ := settled_begin_moves s.afterTake c
  have side := moves.hostSide
  have frame := edit.frame
  have record : OneRecord s.completions c (settled (s.afterTake.begin c)) :=
    Moves.keeps (P := OneRecord s.completions c) (fun _ _ m h => m.oneRecord h) moves
      (.inl ⟨.direct, rfl, frame.completions⟩)
  refine ⟨settled (s.afterTake.begin c), ?_, ?_, ?_, ?_, ?_, record⟩
  · rw [exec_commandTake head, whileRunning_running running, State.takeHead, if_pos ⟨due, head⟩,
      dequeue_eq_afterTake]
  · rw [side.queue, setCommand_queue, frame.queue, List.drop_one]
    rfl
  · rw [side.issueBusy, setCommand_sections, frame.sections]
    rfl
  · rw [side.issueDone, setCommand_sections, frame.sections]
    rfl
  · rw [side.staging, setCommand_staging, frame.staging]
    rfl

/-! ### A record that is due -/

/-- A due record's row carries it out after the take. -/
theorem exec_due {k : CommandKind} {b : CmdBytes} (ready : s.readyFor (stagedOf k b) = true) :
    exec (rowOf (stagedOf k b)) s = .next (settled (s.afterTake.begin (stagedOf k b))) := by
  rw [exec_rowOf_stagedOf, takeRow_ready ready]

/-- A command refused at its take leaves its record and nothing else (R118, R144). -/
theorem settled_refuse {c : Staged} (hcmd : s.command = none) (rest : s.atRest = true) (st : Status) :
    settled (s.refuse c st) = s.answered (refusalOf c st) := settled_finish hcmd rest _

/-! ### Validation -/

theorem refusal_eq_firstFailing (k : CommandKind) (b : CmdBytes) : s.refusal k b = firstFailing
    [(fieldsInRange k b, .badArgument),
     (!needsTarget k || (s.target (slotOf b)).isSome, .noTarget),
     (!(refusesQuarantined k && s.isQuarantined (slotOf b)), .quarantined),
     (!(refusesRestorer k && ((s.target (slotOf b)).bind (·.restorer)).isSome), .busyTarget)] := by
  have step (b : Bool) (x : Status) (r : Option Status) :
      (if (!b) = true then some x else r) = if b = true then r else some x := by cases b <;> rfl
  unfold State.refusal State.attachedOk State.quarantineOk State.restorerOk
  rw [step, step, step, step]
  rfl

theorem begin_refused {k : CommandKind} {b : CmdBytes} {st : Status}
    (h : s.refusal k b = some st) : s.begin (stagedOf k b) = s.refuse (stagedOf k b) st := by
  have refused (work : Reaction) :
      s.validated k (stagedOf k b) work = s.refuse (stagedOf k b) st := validated_refused h work
  cases k <;> exact refused _

theorem optionPort_isSome {o : Byte} : (optionPort o).isSome = true ↔
    o.extractLsb' 0 2 = 0 ∨ o.extractLsb' 0 2 = 1 := by
  unfold optionPort
  generalize o.extractLsb' 0 2 = x
  revert x; decide

theorem optionWidth_isSome {o : Byte} : (optionWidth o).isSome = true ↔
    o.extractLsb' 4 2 = 1 ∨ o.extractLsb' 4 2 = 2 := by
  unfold optionWidth
  generalize o.extractLsb' 4 2 = x
  revert x; decide

theorem optionClass_isSome {o : Byte} : (optionClass o).isSome = true ↔
    1 ≤ (o.extractLsb' 0 3).toNat ∧ (o.extractLsb' 0 3).toNat ≤ 4 := by
  unfold optionClass
  generalize o.extractLsb' 0 3 = x
  revert x; decide

theorem optionQuery_isSome {o : Byte} : (optionQuery o).isSome = true ↔
    o.extractLsb' 0 2 = 1 ∨ o.extractLsb' 0 2 = 2 := by
  unfold optionQuery
  generalize o.extractLsb' 0 2 = x
  revert x; decide

theorem optionCommit_isSome {o : Byte} : (optionCommit o).isSome = true ↔
    o.extractLsb' 0 2 = 1 ∨ o.extractLsb' 0 2 = 2 := by
  unfold optionCommit
  generalize o.extractLsb' 0 2 = x
  revert x; decide

theorem portNumber_isSome {v : Byte} : (portNumber v).isSome = true ↔ v.toNat ≤ 1 := by
  unfold portNumber
  split <;> simp_all
  omega

/-- The table of R136: code, lowest and highest value. -/
def settingRows : List (Nat × Nat × Nat) :=
  [(1, 0, 1), (2, 0, 255), (3, 1, 15), (4, 1, 7), (5, 1, 15), (6, 0, 1), (7, 0, 1)]

theorem settingInRange_eq_true {c : SettingCode} {v : Byte} : settingInRange c v = true ↔
    (settingRange c).1 ≤ v.toNat ∧ v.toNat ≤ (settingRange c).2 := by simp [settingInRange]

theorem settingOf_inRange_iff {code v : Byte} : (match settingOf code with
      | some c => settingInRange c v
      | none => false) = true ↔
    ∃ row ∈ settingRows, code.toNat = row.1 ∧ row.2.1 ≤ v.toNat ∧ v.toNat ≤ row.2.2 := by
  have byte : v.toNat ≤ 255 := Nat.le_of_lt_succ v.isLt
  unfold settingOf
  generalize code.toNat = n
  match n with
  | 0 | 1 | 2 | 3 | 4 | 5 | 6 | 7 => simp [settingRows, settingInRange_eq_true, settingRange, byte]
  | n + 8 => simp [settingRows]

theorem aliasInRange_iff {b : CmdBytes} : aliasInRange b = true ↔ b.aliasNo.toNat ≤ 15 := by
  simp [aliasInRange]
  omega

theorem fieldsInRange_iff (k : CommandKind) (b : CmdBytes) : fieldsInRange k b = true ↔
    (k ∉ [.set, .commit, .portReset] → b.aliasNo.toNat ≤ 15) ∧
    (k = .attach → 0x08 ≤ b.value.toNat ∧ b.value.toNat ≤ 0x77 ∧
      (b.option.extractLsb' 0 2 = 0 ∨ b.option.extractLsb' 0 2 = 1) ∧
      (b.option.extractLsb' 4 2 = 1 ∨ b.option.extractLsb' 4 2 = 2)) ∧
    (k = .define → b.mask ≠ 0 ∧ 1 ≤ (b.option.extractLsb' 0 3).toNat ∧
      (b.option.extractLsb' 0 3).toNat ≤ 4) ∧
    (k = .queryEntry ∨ k = .commit →
      b.option.extractLsb' 0 2 = 1 ∨ b.option.extractLsb' 0 2 = 2) ∧
    (k = .portReset → b.value.toNat ≤ 1) ∧
    (k = .set → ∃ row ∈ settingRows, b.aliasNo.toNat = row.1 ∧ row.2.1 ≤ b.value.toNat ∧
      b.value.toNat ≤ row.2.2) := by
  rw [← aliasInRange_iff, ← optionPort_isSome, ← optionWidth_isSome, ← optionClass_isSome,
    ← portNumber_isSome, ← settingOf_inRange_iff]
  cases k with
  | attach => simp [fieldsInRange, busAddrInRange, and_assoc]
  | define => simp [fieldsInRange, and_assoc]
  | queryEntry => simp [fieldsInRange, optionQuery_isSome]
  | commit => simp [fieldsInRange, optionCommit_isSome]
  | portReset => simp [fieldsInRange]
  | set => simp [fieldsInRange] <;> rfl
  | detach | release | queryTarget | update | retire | read | write | restore | verify =>
    simp [fieldsInRange]

/-- Settles O15: the ranges kind by kind, the refusals by the first check that fails. -/
theorem validationRefusesInOrder : Obligations.ValidationRefusesInOrder := by
  refine ⟨fieldsInRange_iff, fun k => by cases k <;> decide, fun b s => ?_⟩
  intro refused
  refine ⟨fun k unknown ready => ?_, fun k st ready failing => ?_⟩
  · have row : rowOf { kind := k, body := b } = .unknownKind k b := by simp only [rowOf, unknown]
    rw [← row, exec_rowOf, takeRow_ready ready]
    simp only [State.begin, unknown]
    exact congrArg _ (settled_refuse (afterTake_noCommand ready) (afterTake_atRest ready) _)
  · rw [exec_due ready, begin_refused (s := s.afterTake) ((refusal_eq_firstFailing k b).trans failing),
      settled_refuse (afterTake_noCommand ready) (afterTake_atRest ready)]
    rfl

/-! ### Step 6 -/

theorem firstFailing_cons_some {holds : Bool} {x st : Status} {l : List (Bool × Status)} :
    firstFailing ((holds, x) :: l) = some st ↔
      holds = false ∧ x = st ∨ holds = true ∧ firstFailing l = some st := by
  cases holds <;> simp [firstFailing]

theorem firstFailing_cons_none {holds : Bool} {x : Status} {l : List (Bool × Status)} :
    firstFailing ((holds, x) :: l) = none ↔ holds = true ∧ firstFailing l = none := by
  cases holds <;> simp [firstFailing]

/-- A command that passes step 3 names an attached target. -/
theorem attached_of_passes {k : CommandKind} {b : CmdBytes} (passes : s.refusal k b = none)
    (needs : needsTarget k = true) : ∃ x, s.target (slotOf b) = some x := by
  have := (refusal_none_iff.1 passes).2.1
  simpa [State.attachedOk, needs, Option.isSome_iff_exists] using this

@[simp] theorem stagedOf_body (k : CommandKind) (b : CmdBytes) : (stagedOf k b).body = b := rfl

/-- The checks of a DEFINE are its step 6 (R126). -/
theorem defineRefusal_eq {x : Target} {b : CmdBytes} (attached : s.target (slotOf b) = some x) :
    s.defineRefusal x b = firstFailing (stepSix s .define b) := by
  simp only [State.defineRefusal, stepSix, attached, Option.map_some, Option.getD_some,
    Option.bind_some]
  cases addrFits x (addrOf b) with
  | false => rfl
  | true =>
    cases (s.entry (keyOf b)).isSome with
    | true => rfl
    | false =>
      by_cases full : Config.imageCapacity ≤ s.image.entries.length
      · have : decide (s.image.entries.length < 512) = false := decide_eq_false (Nat.not_lt.2 full)
        simp [firstFailing, full, this]
      · have : decide (s.image.entries.length < 512) = true := decide_eq_true (Nat.not_le.1 full)
        simp only [firstFailing, full, this]
        by_cases marker : defineClass b = .marker
        · cases x.marker.isSome <;> cases sameUnder b.mask b.rstval b.value <;> simp [marker]
        · simp [marker]

theorem begin_fails_stepSix {k : CommandKind} {b : CmdBytes} {st : Status}
    (passes : s.refusal k b = none) (failing : firstFailing (stepSix s k b) = some st) :
    s.begin (stagedOf k b) = s.refuse (stagedOf k b) st := by
  have work (w : Reaction) : s.validated k (stagedOf k b) w = w := validated_passes passes w
  have noneLeft {x : Status} : firstFailing [] ≠ some x := nofun
  cases k with
  | queryTarget | restore | verify | set | commit | portReset => cases failing
  | attach =>
    refine (work _).trans ?_
    simp only [stagedOf_body]
    simp only [stepSix, firstFailing_cons_some, noneLeft, and_false, or_false] at failing
    obtain ⟨used, rfl⟩ | ⟨free, clash, rfl⟩ := failing
    · exact if_pos (by simpa using used)
    · exact (if_neg (by simpa using free)).trans (if_pos (by simpa using clash))
  | detach =>
    refine (work _).trans ?_
    simp only [stagedOf_body]
    simp only [stepSix, firstFailing_cons_some, noneLeft, and_false, or_false] at failing
    obtain ⟨entries, rfl⟩ := failing
    exact if_pos (by simpa using entries)
  | release =>
    refine (work _).trans ?_
    obtain ⟨x, hx⟩ := attached_of_passes passes rfl
    simp only [stepSix, firstFailing_cons_some, noneLeft, and_false, or_false, hx,
      isQuarantined_eq hx] at failing
    obtain ⟨busy, rfl⟩ := failing
    simp only [Bool.not_eq_false', Bool.and_eq_true, beq_iff_eq] at busy
    simp only [stagedOf_body, hx]
    exact (if_pos busy.1).trans (if_pos busy.2)
  | define =>
    refine (work _).trans ?_
    simp only [stagedOf_body]
    obtain ⟨x, hx⟩ := attached_of_passes passes rfl
    simp only [hx, (defineRefusal_eq hx).trans failing]
  | update =>
    refine (work _).trans ?_
    simp only [stagedOf_body]
    cases he : s.entry (keyOf b) with
    | none =>
      simp only [stepSix, he, Option.isSome_none, firstFailing] at failing
      cases failing
      rfl
    | some e =>
      simp only [stepSix, firstFailing_cons_some, noneLeft, and_false, or_false, he] at failing
      obtain ⟨unknown, -⟩ | ⟨-, breaks, rfl⟩ := failing
      · cases unknown
      · exact if_pos (by simpa using breaks)
  | retire =>
    refine (work _).trans ?_
    simp only [stagedOf_body]
    simp only [stepSix, firstFailing_cons_some, noneLeft, and_false, or_false] at failing
    obtain ⟨unknown, rfl⟩ := failing
    simp only [show s.entry (keyOf b) = none by simpa using unknown]
  | queryEntry =>
    refine (work _).trans ?_
    simp only [stagedOf_body]
    simp only [stepSix, firstFailing_cons_some, noneLeft, and_false, or_false] at failing
    obtain ⟨unknown, rfl⟩ := failing
    simp only [show s.queried b = none by simpa using unknown]
  | read =>
    refine (work _).trans ?_
    simp only [stagedOf_body]
    obtain ⟨x, hx⟩ := attached_of_passes passes rfl
    simp only [stepSix, firstFailing_cons_some, noneLeft, and_false, or_false, hx] at failing
    obtain ⟨long, rfl⟩ := failing
    simp only [hx]
    exact if_pos (by simpa using long)
  | write =>
    refine (work _).trans ?_
    simp only [stagedOf_body]
    obtain ⟨x, hx⟩ := attached_of_passes passes rfl
    simp only [stepSix, firstFailing_cons_some, noneLeft, and_false, or_false, hx] at failing
    simp only [hx]
    obtain ⟨long, rfl⟩ | ⟨fits, known, rfl⟩ := failing
    · exact if_pos (by simpa using long)
    · exact (if_neg (by simpa using fits)).trans (if_pos (by simpa using known))

/-- Settles O16: the first check that fails, kind by kind. -/
theorem stepSixRefusesInOrder : Obligations.StepSixRefusesInOrder := by
  intro k b s st ready passes failing
  rw [exec_due ready, begin_fails_stepSix (s := s.afterTake) passes failing,
    settled_refuse (afterTake_noCommand ready) (afterTake_atRest ready)]
  rfl

/-! ### SET and PORT_RESET -/

theorem atRest_same (rest : s.atRest = true) (h0 : t.port0 = s.port0) (h1 : t.port1 = s.port1) :
    t.atRest = true := (atRest_congr h0 h1).trans rest

/-- A command that ends at its take, having changed neither the ports nor the current command. -/
theorem settled_ends (hcmd : s.command = none) (rest : s.atRest = true)
    (command : t.command = s.command) (h0 : t.port0 = s.port0) (h1 : t.port1 = s.port1)
    (r : Completion) : settled (t.finish r, []) = t.answered r :=
  settled_finish (command.trans hcmd) (atRest_same rest h0 h1) r

/-- Settles O31: one setting is put. -/
theorem setStoresTheSetting : Obligations.SetStoresTheSetting := by
  intro b s c ready code range
  have passes : s.afterTake.refusal .set b = none :=
    refusal_none_iff.2 ⟨by simp only [fieldsInRange, code, range], rfl, rfl, rfl⟩
  refine ⟨s.settings.put c b.value, by rw [get_put, if_pos rfl],
    fun d hd => by rw [get_put, if_neg hd], ?_⟩
  rw [show Instr.set b = rowOf (stagedOf .set b) from rfl, exec_due ready]
  change Host.Outcome.next (settled (s.afterTake.beginSet (stagedOf .set b))) = _
  rw [State.beginSet, validated_passes (by exact passes)]
  simp only [stagedOf_body, code]
  refine congrArg Host.Outcome.next
    (settled_ends (readyFor_noCommand ready) (readyFor_atRest ready) ?_ ?_ ?_ _) <;> rfl

theorem startRounds_eq (p : PortId) (origin : RecoveryOrigin) : s.startRounds p origin =
    s.setPort p { s.port p with
      state := if (s.port p).state = .down then .down else .recovering
      flight := none
      recovery := some
        { round := .first, origin := origin, timing := s.busTiming p, discarded := false } } := rfl

/-- Settles O33: the request at each kind of port. -/
theorem portResetStartsRounds : Obligations.PortResetStartsRounds := by
  intro b s p ready number t rounds
  have passes : s.afterTake.refusal .portReset b = none :=
    refusal_none_iff.2 ⟨by simp [fieldsInRange, number], rfl, rfl, rfl⟩
  have begun : exec (.portReset b) s = .next (settled (t, [(p, .portReset)])) := by
    rw [show Instr.portReset b = rowOf (stagedOf .portReset b) from rfl, exec_due ready]
    change Host.Outcome.next (settled (s.afterTake.beginPortReset (stagedOf .portReset b))) = _
    rw [State.beginPortReset, validated_passes (by exact passes)]
    simp only [stagedOf_body, number]
    rfl
  have rest : t.atRest = true := atRest_same (readyFor_atRest ready) rfl rfl
  have port : t.port p = s.port p := port_congr rfl rfl p
  refine ⟨fun free => ?_, fun down none => ?_, fun occupied => ?_⟩
  · rw [begun, settled_portReset_free rest (by rw [State.portFree, port]; exact free),
      startRounds_eq, port, if_neg (by rw [portFree_state free]; decide)]
    rfl
  · rw [begun, settled_portReset_down rest (by rw [port, down]) (by rw [port, none]),
      startRounds_eq, port, if_pos down]
    rfl
  · rw [begun, settled_waits rest (by rw [port]; exact occupied), State.enqueue, port]

end Machine
end Sys2Proof
end

section
/-! PROOF. Commands about targets, queries, direct access and VERIFY at the take (R18, R20, R72, R74,
R79, R80, R84, R85, R97, R99, R121, R123 to R125, R131, R132, R134, R135, R139, R140, R145, R146). -/

namespace Sys2Proof
namespace Machine

variable {s t : State}

/-! ### Outcomes that are counted -/

/-- The failures of a target after a report that is counted (R80). -/
def failuresAfter (x : Target) (o : BusOutcome) : Nat :=
  if o.isDone then 0 else min (x.failures + 1) 15

/-- A report from the target's own place that does not quarantine it sets its failures (R80). -/
theorem report_counts {a : Fin 16} {x : Target} {o : BusOutcome} (attached : s.target a = some x)
    (counted : o ≠ .withheld)
    (below : o.isDone = false → failuresAfter x o < s.settings.failThreshold.toNat) :
    s.report a x.port x.busAddr o =
      s.setTarget a (some { x with failures := failuresAfter x o }) := by
  obtain ⟨done, -, failed⟩ := (reportsAreCounted s a x.port x.busAddr o).2 x attached rfl rfl
  cases hd : o.isDone with
  | true =>
    obtain ⟨v, rfl⟩ : ∃ v, o = .done v := by
      cases o with
      | done v => exact ⟨v, rfl⟩
      | _ => cases hd
    exact done v rfl
  | false =>
    have n : failuresAfter x o = min (x.failures + 1) 15 := by simp [failuresAfter, hd]
    rw [n]
    exact (failed hd counted).2 (.inr (n ▸ below hd))

theorem reportUngranted_counts {a : Fin 16} {x : Target} (attached : s.target a = some x)
    (below : min (x.failures + 1) 15 < s.settings.failThreshold.toNat) :
    s.reportUngranted a x.port .portDown =
      s.setTarget a (some { x with failures := min (x.failures + 1) 15 }) := by
  simp only [State.reportUngranted, attached]
  exact report_counts attached nofun fun _ => below

/-! ### The executor's request at the three kinds of port -/

/-- A request of the executor at a BUSY or RECOVERING port waits (R99). -/
theorem settled_working_waits {c : Staged} {g : Progress} {p : PortId} (rest : s.atRest = true)
    (occupied : (s.port p).state = .busy ∨ (s.port p).state = .recovering) :
    settled (s.working c g, [(p, .executor)]) = (s.working c g).setPort p
      { s.port p with waiting := (s.port p).waiting ++ [.executor] } := by
  have port : (s.working c g).port p = s.port p := port_congr rfl rfl p
  rw [settled_waits (s := s.working c g) (atRest_same rest rfl rfl) (by rwa [port]), State.enqueue,
    port]

/-- A DOWN port answers the executor's request at once, and the answer is counted against the target
(R80, R97). -/
theorem answerDown_executor {c : Command} {x : Target} (command : s.command = some c)
    (reported : c.progress ≠ .probe) (attached : s.target (slotOf c.staged.body) = some x)
    (below : min (x.failures + 1) 15 < s.settings.failThreshold.toNat) :
    s.answerDown x.port .executor = State.executorOutcome
      (s.setTarget (slotOf c.staged.body) (some { x with failures := min (x.failures + 1) 15 }))
      .portDown := by
  have probing : s.probing = false := by simpa [State.probing, command] using reported
  simp only [State.answerDown, command, probing, reportUngranted_counts attached below]
  rfl

/-- The executor's work at a take, where its request finds the target's port. -/
theorem startWork_eq {c : Staged} {x : Target} (attached : s.target (slotOf c.body) = some x)
    (g : Progress) : s.startWork c g = (s.working c g, [(x.port, .executor)]) :=
  congrArg (Prod.mk _) (placeFor_eq attached _)

/-- A command that passes step 4 finds its target not QUARANTINED. -/
theorem sound_of_passes {k : CommandKind} {b : CmdBytes} (passes : s.refusal k b = none)
    (refuses : refusesQuarantined k = true) : s.isQuarantined (slotOf b) = false := by
  have := (refusal_none_iff.1 passes).2.2.1
  simpa [State.quarantineOk, refuses] using this

/-- A command that passes step 5 finds its target without a restorer. -/
theorem unclaimed_of_passes {k : CommandKind} {b : CmdBytes} {x : Target}
    (passes : s.refusal k b = none) (refuses : refusesRestorer k = true)
    (attached : s.target (slotOf b) = some x) : x.restorer = none := by
  have := (refusal_none_iff.1 passes).2.2.2
  simpa [State.restorerOk, refuses, attached] using this

/-! ### ATTACH -/

theorem attachPort_eq {b : CmdBytes} {p : PortId} (h : optionPort b.option = some p) :
    attachPort b = p := by rw [attachPort, h]; rfl

theorem attachWidth_eq {b : CmdBytes} {w : Width} (h : optionWidth b.option = some w) :
    attachWidth b = w := by rw [attachWidth, h]; rfl

theorem isQuarantined_free {a : Fin 16} (free : s.target a = none) : s.isQuarantined a = false := by
  unfold State.isQuarantined; rw [free]

/-- Settles O17: the probe's request at each kind of port. -/
theorem attachProbes : Obligations.AttachProbes := by
  intro b s p w ready inRange busAddr port width free clear t
  have passes : s.afterTake.refusal .attach b = none := refusal_none_iff.2
    ⟨by simp [fieldsInRange, inRange, busAddr, port, width], rfl, rfl, rfl⟩
  have begun : exec (.attach b) s = .next (settled (t, [(p, .executor)])) := by
    rw [show Instr.attach b = rowOf (stagedOf .attach b) from rfl, exec_due ready]
    change Host.Outcome.next (settled (s.afterTake.beginAttach (stagedOf .attach b))) = _
    rw [State.beginAttach, validated_passes (by exact passes)]
    simp only [stagedOf_body, attachPort_eq port]
    rw [if_neg (by rw [show s.afterTake.target (slotOf b) = none from free]; decide),
      if_neg (by rw [show s.afterTake.addressTaken p (busAddrOf b.value) = false from clear]; decide)]
    rfl
  have rest : t.atRest = true := atRest_same (readyFor_atRest ready) rfl rfl
  have tport : t.port p = s.port p := port_congr rfl rfl p
  rw [begun]
  refine ⟨fun idle => ?_, fun occupied => ?_, fun down => ?_⟩
  · exact congrArg _ (settled_executor_inFlight rest (by rw [State.portFree, tport]; exact idle) rfl rfl
      (isQuarantined_free (s := t) free))
  · have taken : s.afterTake.port p = s.port p := port_congr rfl rfl p
    rw [settled_working_waits (afterTake_atRest ready) (by rwa [taken]), taken]
  · rw [settled_down rest (by rw [tport, down]) (by decide)
      (t.finish (attachCompletion (stagedOf .attach b) .portDown)) rfl (atRest_same rest rfl rfl)]
    change Host.Outcome.next (s.afterTake.finish _) = _
    rw [finish_eq_answered (afterTake_noCommand ready), attachCompletion]
    simp only [stagedOf_body, attachPort_eq port, attachWidth_eq width]
    rfl

/-! ### DETACH, RELEASE and QUERY_TARGET -/

/-- The record of a target that a take finds is the one from before. -/
theorem afterTake_target (a : Fin 16) : s.afterTake.target a = s.target a := rfl

theorem compared_iff {e : Entry} : e.compared = true ↔ e.cls ≠ .restoreOnly := by
  simp [Entry.compared]

/-- The table after a target is returned from QUARANTINED (R18, R84). -/
theorem releaseTarget_eq {a : Fin 16} {x : Target} (attached : s.target a = some x) :
    s.releaseTarget a = { s with
      targets := s.targets.set a (some { x with state := .online, failures := 0 })
      image := { s.image with entries := s.image.entries.map fun e =>
        if e.key.aliasNo = a ∧ e.cls ≠ .restoreOnly then { e with state := .unseen } else e } } := by
  unfold State.releaseTarget
  simp only [modifyTarget_some attached, compared_iff]
  rfl

/-- Settles O19: the slot cleared, and a target returned or left. -/
theorem detachAndRelease : Obligations.DetachAndRelease := by
  intro b s x inRange attached
  have attachedOk (k : CommandKind) : s.afterTake.attachedOk k (slotOf b) = true := by
    simp [State.attachedOk, afterTake_target, attached]
  refine ⟨fun ready unclaimed noEntries => ?_, fun ready => ?_⟩
  · have passes : s.afterTake.refusal .detach b = none := refusal_none_iff.2
      ⟨inRange, attachedOk _, rfl, by
        simp [State.restorerOk, afterTake_target, attached, unclaimed]⟩
    rw [show Instr.detach b = rowOf (stagedOf .detach b) from rfl, exec_due ready]
    change Host.Outcome.next (settled (s.afterTake.beginDetach (stagedOf .detach b))) = _
    rw [State.beginDetach, validated_passes (by exact passes)]
    simp only [stagedOf_body, show s.afterTake.entriesOf (slotOf b) = [] from noEntries]
    refine congrArg Host.Outcome.next
      (settled_ends (readyFor_noCommand ready) (readyFor_atRest ready) ?_ ?_ ?_ _) <;> rfl
  · have passes : s.afterTake.refusal .release b = none := refusal_none_iff.2
      ⟨inRange, attachedOk _, rfl, rfl⟩
    rw [show Instr.release b = rowOf (stagedOf .release b) from rfl, exec_due ready]
    change (_ → _ → _ → Host.Outcome.next (settled (s.afterTake.beginRelease (stagedOf .release b))) = _)
      ∧ (_ → Host.Outcome.next (settled (s.afterTake.beginRelease (stagedOf .release b))) = _)
    rw [State.beginRelease, validated_passes (by exact passes)]
    simp only [stagedOf_body, afterTake_target, attached]
    refine ⟨fun quarantined unclaimed still => ?_, fun sound => ?_⟩
    · have idle : s.afterTake.repairing (slotOf b) = false := still
      simp only [quarantined, if_true, unclaimed, idle, Option.isSome_none, Bool.or_self,
        Bool.false_eq_true, if_false, releaseTarget_eq (s := s.afterTake) attached]
      refine congrArg Host.Outcome.next
        (settled_ends (readyFor_noCommand ready) (readyFor_atRest ready) ?_ ?_ ?_ _) <;> rfl
    · rw [if_neg sound]
      refine congrArg Host.Outcome.next
        (settled_ends (readyFor_noCommand ready) (readyFor_atRest ready) ?_ ?_ ?_ _) <;> rfl

/-! ### QUERY_TARGET and QUERY_ENTRY -/

/-- The target detail, field by field (R186). -/
theorem targetDetail_fields (x : Target) :
    (targetDetail x).extractLsb' 0 2 = (match x.state with
      | .online => 1
      | .restoring => 2
      | .quarantined => 3) ∧
    ((targetDetail x).getLsbD 4 = true ↔ x.port = .p1) ∧
    ((targetDetail x).getLsbD 5 = true ↔ x.width = .bits16) ∧
    ((targetDetail x).getLsbD 6 = true ↔ x.marker.isSome = true) ∧
    targetDetail x &&& 0x8C = 0 := by
  unfold targetDetail placeDetail
  generalize x.marker.isSome = m
  cases x.state <;> cases x.port <;> cases x.width <;> cases m <;> decide

/-- QUERY_ENTRY answers with the entry it finds, or with NO_ENTRY (R139). -/
theorem exec_queryEntry {b : CmdBytes} {q : QueryOption}
    (ready : s.readyFor (stagedOf .queryEntry b) = true) (inRange : aliasInRange b = true)
    (option : optionQuery b.option = some q) :
    exec (.queryEntry b) s = .next (s.afterTake.answered (match s.queried b with
      | some e => queryCompletion (stagedOf .queryEntry b) e
      | none => refusalOf (stagedOf .queryEntry b) .noEntry)) := by
  have passes : s.afterTake.refusal .queryEntry b = none := refusal_none_iff.2
    ⟨by simp [fieldsInRange, inRange, option], rfl, rfl, rfl⟩
  rw [show Instr.queryEntry b = rowOf (stagedOf .queryEntry b) from rfl, exec_due ready]
  change Host.Outcome.next (settled (s.afterTake.beginQueryEntry (stagedOf .queryEntry b))) = _
  rw [State.beginQueryEntry, validated_passes (by exact passes)]
  simp only [stagedOf_body, show s.afterTake.queried b = s.queried b from rfl]
  cases s.queried b <;>
    exact congrArg Host.Outcome.next
      (settled_finish (afterTake_noCommand ready) (afterTake_atRest ready) _)

theorem keyAbove_some {c k : Key} : keyAbove (some c) k = true ↔ keyRank c < keyRank k := by
  simp [keyAbove]

/-- What the search finds is the wanted entry above the cursor that has the lowest key. -/
theorem nextEntry_eq (rise : KeysRise s.image.entries) {cursor : Option Key} {want : Entry → Bool}
    {e : Entry} (he : e ∈ s.image.entries) (hc : keyAbove cursor e.key = true) (hw : want e = true)
    (lowest : ∀ y ∈ s.image.entries, keyAbove cursor y.key = true → want y = true →
      keyRank e.key ≤ keyRank y.key) : s.nextEntry cursor want = some e := by
  cases found : s.nextEntry cursor want with
  | none => simp [nextEntry_none found e he hc] at hw
  | some y =>
    obtain ⟨hy, yc, yw⟩ := nextEntry_some found
    have key : y.key = e.key := keyRank_injective
      (Nat.le_antisymm (nextEntry_lowest rise found he hc hw) (lowest y hy yc yw))
    rw [rise.unique hy he key]

theorem nextEntry_eq_none {cursor : Option Key} {want : Entry → Bool}
    (h : ∀ e ∈ s.image.entries, keyAbove cursor e.key = true → want e = false) :
    s.nextEntry cursor want = none :=
  List.find?_eq_none.2 fun e he => by
    by_cases hk : keyAbove cursor e.key = true
    · simp [h e he hk]
    · simp [hk]

theorem entry_eq_none {k : Key} (h : ∀ e ∈ s.image.entries, e.key ≠ k) : s.entry k = none :=
  List.find?_eq_none.2 fun e he => by simpa using h e he

/-- Settles O20: the record of the target, and of the entry that is found. -/
theorem queriesAnswer : Obligations.QueriesAnswer := by
  refine ⟨fun b s x ready inRange attached => ?_, fun b s ready rise inRange => ?_⟩
  · have passes : s.afterTake.refusal .queryTarget b = none := refusal_none_iff.2
      ⟨inRange, by simp [State.attachedOk, afterTake_target, attached], rfl, rfl⟩
    have answer : exec (.queryTarget b) s = .next (s.afterTake.answered
        { completionOf (stagedOf .queryTarget b) .ok with
          aliasNo := b.aliasNo, value := BitVec.ofNat 8 x.busAddr.toNat
          expected := BitVec.ofNat 8 x.failures, detail := targetDetail x
          count := halfCount (s.entriesOf (slotOf b)).length }) := by
      rw [show Instr.queryTarget b = rowOf (stagedOf .queryTarget b) from rfl, exec_due ready]
      change Host.Outcome.next (settled (s.afterTake.beginQueryTarget (stagedOf .queryTarget b))) = _
      rw [State.beginQueryTarget, validated_passes (by exact passes)]
      simp only [stagedOf_body, afterTake_target, attached]
      exact congrArg Host.Outcome.next
        (settled_finish (afterTake_noCommand ready) (afterTake_atRest ready) _)
    refine ⟨_, answer, rfl, rfl, rfl, rfl, rfl, rfl, ?_, rfl, ?_, targetDetail_fields x⟩
    · exact BitVec.eq_of_toNat_eq (by simp)
    · exact congrArg (BitVec.ofNat 16) List.countP_eq_length_filter.symm
  · intro found missing
    refine ⟨fun exact => ?_, fun next => ?_⟩
    · have option : optionQuery b.option = some .exact := by unfold optionQuery; rw [exact]; rfl
      have queried : s.queried b = s.entry (keyOf b) := by simp only [State.queried, option]
      have answer := exec_queryEntry ready inRange option
      rw [queried] at answer
      refine ⟨fun e he key => ?_, fun none => ?_⟩
      · rw [← key, entry_of_mem rise he] at answer
        exact answer
      · rw [entry_eq_none none] at answer
        exact answer
    · have option : optionQuery b.option = some .next := by unfold optionQuery; rw [next]; rfl
      have queried : s.queried b = s.nextEntry (some (keyOf b)) fun _ => true := by
        simp only [State.queried, option]
      have answer := exec_queryEntry ready inRange option
      rw [queried] at answer
      refine ⟨fun e he above lowest => ?_, fun none => ?_⟩
      · rw [nextEntry_eq rise he (keyAbove_some.2 above) rfl fun y hy hc _ =>
          lowest y hy (keyAbove_some.1 hc)] at answer
        exact answer
      · rw [nextEntry_eq_none fun e he hc =>
          absurd (keyAbove_some.1 hc) (Nat.not_lt.2 (none e he))] at answer
        exact answer

/-! ### READ and WRITE -/

/-- A READ or a WRITE that passes its checks starts its one transaction (R131, R132). -/
theorem begin_direct {k : CommandKind} {b : CmdBytes} {x : Target} (kind : k = .read ∨ k = .write)
    (passes : s.refusal k b = none) (six : firstFailing (stepSix s k b) = none)
    (attached : s.target (slotOf b) = some x) :
    s.begin (stagedOf k b) = (s.working (stagedOf k b) .direct, [(x.port, .executor)]) := by
  rw [← startWork_eq (c := stagedOf k b) attached]
  rcases kind with rfl | rfl
  · change s.beginRead _ = _
    simp only [stepSix, firstFailing_cons_none, attached, Option.map_some, Option.getD_some] at six
    rw [State.beginRead, validated_passes (by exact passes)]
    simp only [stagedOf_body, attached, six.1]
    rfl
  · change s.beginWrite _ = _
    simp only [stepSix, firstFailing_cons_none, attached, Option.map_some, Option.getD_some] at six
    obtain ⟨fits, unknown, -⟩ := six
    rw [State.beginWrite, validated_passes (by exact passes)]
    simp only [stagedOf_body, attached, fits,
      show (s.entry (keyOf b)).isSome = false by simpa using unknown]
    rfl

/-- The record of a READ or a WRITE that did not end DONE (R145). -/
theorem directOutcome_fails {k : CommandKind} {b : CmdBytes} {o : BusOutcome}
    (kind : k = .read ∨ k = .write) (failed : o.isDone = false) :
    s.directOutcome (stagedOf k b) o = s.finish
      { completionOf (stagedOf k b) (statusOf o) with
        aliasNo := b.aliasNo, addr := addrOf b, value := if k = .write then b.value else 0 } := by
  rcases kind with rfl | rfl
  · cases o with
    | done v => cases failed
    | _ => rfl
  · rfl

/-- The transaction of a READ or a WRITE (R131, R132). -/
theorem directForm_eq {k : CommandKind} (b : CmdBytes) (w : Width) (kind : k = .read ∨ k = .write) :
    directForm (stagedOf k b) w =
      if k = .write then .write (addrOf b) w b.value else .read (addrOf b) w := by
  rcases kind with rfl | rfl <;> rfl

/-- Settles O24: the request at each kind of port. -/
theorem readAndWriteStart : Obligations.ReadAndWriteStart := by
  intro k b s x kind ready passes six attached form t
  have row : (if k = .write then Instr.write b else .read b) = rowOf (stagedOf k b) := by
    rcases kind with rfl | rfl <;> rfl
  have begun : s.afterTake.begin (stagedOf k b) = (t, [(x.port, .executor)]) :=
    begin_direct (s := s.afterTake) kind passes six attached
  have rest : t.atRest = true := atRest_same (readyFor_atRest ready) rfl rfl
  have tport : t.port x.port = s.port x.port := port_congr rfl rfl _
  have sound : s.isQuarantined (slotOf b) = false :=
    sound_of_passes passes (by rcases kind with rfl | rfl <;> rfl)
  rw [row, exec_due ready, begun]
  refine ⟨fun free => ?_, fun occupied => ?_, fun down below => ?_⟩
  · refine congrArg _ (settled_executor_inFlight rest (by rw [State.portFree, tport]; exact free) ?_ rfl
      sound)
    change t.formFor x.port .executor (slotOf b) (directForm (stagedOf k b)) = _
    rw [formFor_eq (s := t) attached, directForm_eq b x.width kind]
    rfl
  · have taken : s.afterTake.port x.port = s.port x.port := port_congr rfl rfl _
    rw [settled_working_waits (afterTake_atRest ready) (by rwa [taken]), taken]
  · have answer := answerDown_executor (s := t) (c := { staged := stagedOf k b, progress := .direct })
      rfl nofun attached below
    change _ = (State.directOutcome _ (stagedOf k b) .portDown, []) at answer
    rw [directOutcome_fails kind rfl] at answer
    rw [settled_down rest (by rw [tport, down]) (by decide) _ answer (atRest_same rest rfl rfl)]
    change Host.Outcome.next (State.finish (s.afterTake.setTarget _ _) _) = _
    rw [finish_eq_answered (s := s.afterTake.setTarget _ _) (readyFor_noCommand (s := s) ready)]
    rfl

/-! ### VERIFY -/

/-- A VERIFY that goes on asks for the read of the next entry (R134). -/
theorem verifyGoOn_reads {c : Staged} {v : VerifyProgress} {e : Entry} {x : Target}
    (attached : s.target (slotOf c.body) = some x) (sound : s.isQuarantined (slotOf c.body) = false)
    (unclaimed : s.isRestoredBy (slotOf c.body) .scrub = false)
    (next : s.nextEntry v.lastRead (fun y => y.key.aliasNo == slotOf c.body && y.compared) = some e) :
    s.verifyGoOn c v =
      (s.working c (.verify { v with reading := some e.key }), [(x.port, .executor)]) := by
  simp only [State.verifyGoOn, sound, unclaimed, next]
  exact congrArg (Prod.mk _) (placeFor_eq attached _)

/-- The read of a VERIFY at the free port of its target (R134). -/
theorem settled_verifyRead {p : PortId} {c : Staged} {v : VerifyProgress} {k : Key} {x : Target}
    (rest : s.atRest = true) (free : s.portFree p = true)
    (attached : s.target (slotOf c.body) = some x) (sound : s.isQuarantined (slotOf c.body) = false)
    (reading : v.reading = some k) :
    settled (s.working c (.verify v), [(p, .executor)]) = (s.working c (.verify v)).inFlight p
      (formedFlight .executor (slotOf c.body) x.busAddr (s.busTiming p) (.read k.addr x.width)) := by
  let t : State := s.working c (.verify v)
  have formed : t.executorFlight p = some (formedFlight .executor (slotOf c.body) x.busAddr
      (s.busTiming p) (.read k.addr x.width)) := by
    change (v.reading.bind fun k => t.formFor p .executor (slotOf c.body) fun w => .read k.addr w) = _
    rw [reading]
    exact formFor_eq (s := t) attached p .executor fun w => .read k.addr w
  exact settled_executor_inFlight (s := t) (atRest_same rest rfl rfl) free formed rfl sound

/-- A VERIFY with no further entry ends with its first failure, or OK (R135). -/
theorem verifyGoOn_ends {c : Staged} {v : VerifyProgress}
    (sound : s.isQuarantined (slotOf c.body) = false)
    (unclaimed : s.isRestoredBy (slotOf c.body) .scrub = false)
    (next : s.nextEntry v.lastRead (fun y => y.key.aliasNo == slotOf c.body && y.compared) = none) :
    s.verifyGoOn c v = (s.endVerify c v (match v.firstFailure with
      | some o => statusOf o
      | none => .ok), []) := by
  simp only [State.verifyGoOn, sound, unclaimed, next]
  rfl

/-- Settles O26: the first read, or the end at the take. -/
theorem verifyReadsTheFirstEntry : Obligations.VerifyReadsTheFirstEntry := by
  intro b s x ready passes attached first
  have sound : s.isQuarantined (slotOf b) = false := sound_of_passes passes rfl
  have unclaimed : s.isRestoredBy (slotOf b) .scrub = false := by
    rw [isRestoredBy_eq attached, unclaimed_of_passes passes rfl attached]
    exact Bool.and_false _
  have begun : exec (.verify b) s = .next (settled
      (s.afterTake.verifyGoOn (stagedOf .verify b) VerifyProgress.start)) := by
    rw [show Instr.verify b = rowOf (stagedOf .verify b) from rfl, exec_due ready]
    change Host.Outcome.next (settled (s.afterTake.beginVerify (stagedOf .verify b))) = _
    rw [State.beginVerify, validated_passes (by exact passes)]
  rw [begun]
  refine ⟨fun e found free => ?_, fun missing => ?_⟩
  · rw [verifyGoOn_reads (s := s.afterTake) (c := stagedOf .verify b) (v := VerifyProgress.start)
      attached sound unclaimed found, settled_verifyRead (s := s.afterTake) (c := stagedOf .verify b)
        (afterTake_atRest ready) free attached sound rfl]
    rfl
  · rw [verifyGoOn_ends (s := s.afterTake) (c := stagedOf .verify b)
      (v := VerifyProgress.start) sound unclaimed missing]
    exact congrArg _ (settled_finish (afterTake_noCommand ready) (afterTake_atRest ready) _)

end Machine
end Sys2Proof
end

section
/-! PROOF. DEFINE, UPDATE and RETIRE: the change of the Image Table at the take, and the first
transaction of an UPDATE or a DEFINE with APPLY (R3, R4, R9 to R11, R19, R43, R75, R97, R99, R108,
R126 to R130, R145). -/

namespace Sys2Proof
namespace Machine

variable {s t : State}

/-! ### The change of the Image Table -/

theorem markStale_eq (k : Key) : s.markStale k = { s with
    scrub := if s.scrub.current = some k then { s.scrub with stale := true } else s.scrub } := by
  unfold State.markStale
  split <;> rfl

/-- The part after the insertion of a DEFINE (R9, R43, R75, R108). -/
theorem insertNew_eq {b : CmdBytes} {x : Target} (attached : s.target (slotOf b) = some x) :
    s.insertNew b = { s with
      image := { s.image with
        entries := insertEntry (newEntry b) s.image.entries
        signature := signatureOf (insertEntry (newEntry b) s.image.entries) }
      targets := if defineClass b = .marker then
          s.targets.set (slotOf b) (some { x with marker := some (addrOf b) }) else s.targets
      scrub := if s.scrub.current = some (keyOf b) then { s.scrub with stale := true }
        else s.scrub } := by
  have found (es : List Entry) : (s.changeImage es).target (newEntry b).key.aliasNo = some x := attached
  unfold State.insertNew
  simp only [show (newEntry b).cls = defineClass b from rfl, modifyTarget_some (found _), markStale_eq]
  by_cases marker : defineClass b = .marker
  · simp only [if_pos marker]; rfl
  · simp only [if_neg marker]; rfl

/-- The part after the removal of a RETIRE (R19, R43, R75, R108). -/
theorem removeEntry_eq {e : Entry} {x : Target} (attached : s.target e.key.aliasNo = some x) :
    s.removeEntry e = { s with
      image := { s.image with
        entries := s.image.entries.filter fun y => y.key ≠ e.key
        signature := signatureOf (s.image.entries.filter fun y => y.key ≠ e.key) }
      targets := if e.cls = .marker then
          s.targets.set e.key.aliasNo (some { x with marker := none }) else s.targets
      scrub := if s.scrub.current = some e.key then { s.scrub with stale := true }
        else s.scrub } := by
  have found (es : List Entry) : (s.changeImage es).target e.key.aliasNo = some x := attached
  have others : (fun y : Entry => y.key != e.key) = fun y => decide (y.key ≠ e.key) :=
    funext fun y => by by_cases h : y.key = e.key <;> simp [h]
  unfold State.removeEntry
  simp only [modifyTarget_some (found _), markStale_eq, others]
  by_cases marker : e.cls = .marker
  · simp only [if_pos marker]; rfl
  · simp only [if_neg marker]; rfl

/-- The part after an UPDATE has been taken (R10, R43, R108). -/
theorem takeUpdate_eq (e : Entry) : s.takeUpdate e = { s with
    image := { s.image with
      entries := s.image.entries.map fun y => if y.key = e.key then e else y
      signature := signatureOf (s.image.entries.map fun y => if y.key = e.key then e else y) }
    scrub := if s.scrub.current = some e.key then { s.scrub with stale := true }
      else s.scrub } := by
  unfold State.takeUpdate
  rw [markStale_eq]
  rfl

/-- Settles O23: the removal and its record. -/
theorem retireRemoves : Obligations.RetireRemoves := by
  intro b s x e ready passes attached found es
  have key : e.key = keyOf b := (entry_some found).2
  rw [show Instr.retire b = rowOf (stagedOf .retire b) from rfl, exec_due ready]
  change Host.Outcome.next (settled (s.afterTake.beginRetire (stagedOf .retire b))) = _
  have removed := removeEntry_eq (s := s.afterTake) (e := e) (x := x) (by rw [key]; exact attached)
  rw [State.beginRetire, validated_passes (by exact passes)]
  simp only [stagedOf_body, show s.afterTake.entry (keyOf b) = some e from found, removed, key]
  refine congrArg Host.Outcome.next
    (settled_ends (readyFor_noCommand ready) (readyFor_atRest ready) ?_ ?_ ?_ _) <;> rfl

/-! ### The transactions of an UPDATE or a DEFINE with APPLY -/

/-- Each transaction of an UPDATE or a DEFINE with APPLY goes onto the free port of its target, formed
from the entry as it stands (R121). -/
theorem settled_apply {p : PortId} {c : Staged} {step : WriteStep} {base : Option Byte} {e : Entry}
    {x : Target} (rest : s.atRest = true) (free : s.portFree p = true)
    (found : s.entry (keyOf c.body) = some e) (attached : s.target (slotOf c.body) = some x)
    (sound : x.state ≠ .quarantined) :
    settled (s.working c (.apply step base), [(p, .executor)]) = State.inFlight
      (s.working c (.apply step base)) p
      (formedFlight .executor (slotOf c.body) x.busAddr (s.busTiming p)
        (writeStepForm step e base x.width)) := by
  let t : State := s.working c (.apply step base)
  have formed : t.executorFlight p = some (formedFlight .executor (slotOf c.body) x.busAddr
      (s.busTiming p) (writeStepForm step e base x.width)) := by
    change (t.entry (keyOf c.body)).bind (fun e => t.formFor p .executor (slotOf c.body)
      (writeStepForm step e base)) = _
    rw [show t.entry (keyOf c.body) = some e from found]
    exact formFor_eq (s := t) attached p .executor (writeStepForm step e base)
  refine settled_executor_inFlight (s := t) (atRest_same rest rfl rfl) free formed rfl ?_
  rw [formedFlight, isQuarantined_eq (s := t) attached]
  simpa using sound

/-- The first transaction of a write with its reads (R127, R129). -/
theorem writeStepForm_first (e : Entry) (w : Width) :
    writeStepForm (if e.mask = 0xFF then .write else .baseRead) e none w =
      if e.mask = 0xFF then .write e.key.addr w e.expected else .read e.key.addr w := by
  by_cases full : e.mask = 0xFF
  · simp [full, writeStepForm, Entry.writeValue]
  · rw [if_neg full, if_neg full, writeStepForm]

/-! ### DEFINE -/

theorem newEntry_eq {b : CmdBytes} {cls : EntryClass} (h : optionClass b.option = some cls) :
    newEntry b =
      { key := keyOf b, expected := b.value, mask := b.mask, cls := cls, halt := b.option.getLsbD 4
        resetValue := if cls = .marker then some b.rstval else none
        state := if b.option.getLsbD 5 = true ∧ cls ≠ .restoreOnly then .pending else .unseen
        attempts := 0, lastObserved := none, drifts := 0 } := by
  have staged : defineClass b = cls := by rw [defineClass, h]; rfl
  simp only [newEntry, staged]
  rfl

/-- A new entry is what its key finds. -/
theorem find_insertEntry {e : Entry} {es : List Entry} (fresh : ∀ y ∈ es, y.key ≠ e.key) :
    (insertEntry e es).find? (·.key == e.key) = some e := by
  induction es with
  | nil => simp [insertEntry]
  | cons y ys ih =>
    unfold insertEntry
    split
    · simp
    · rw [List.find?_cons_of_neg (by simpa using fresh y List.mem_cons_self)]
      exact ih fun z hz => fresh z (List.mem_cons_of_mem y hz)

/-- A DEFINE that passes its checks inserts its entry, and goes on as its option says (R126, R127). -/
theorem begin_define {b : CmdBytes} {x : Target} (passes : s.refusal .define b = none)
    (six : firstFailing (stepSix s .define b) = none) (attached : s.target (slotOf b) = some x) :
    s.begin (stagedOf .define b) = if optionApply b.option
      then (s.insertNew b).startApply (stagedOf .define b) (newEntry b)
      else ((s.insertNew b).finish
        (entryCompletion (stagedOf .define b) .ok (some (newEntry b)) 0), []) := by
  change s.beginDefine _ = _
  rw [State.beginDefine, validated_passes (by exact passes)]
  simp only [stagedOf_body, attached, (defineRefusal_eq attached).trans six]
  rfl

/-- Settles O21: the insertion, and the first request at a free and at an occupied port. -/
theorem defineInserts : Obligations.DefineInserts := by
  intro b s x cls ready passes six attached option e es t
  have entry : newEntry b = e := newEntry_eq option
  have staged : defineClass b = cls := by rw [defineClass, option]; rfl
  have inserted : s.afterTake.insertNew b = t := by
    rw [insertNew_eq (s := s.afterTake) attached, entry, staged]
    rfl
  have begun : exec (.define b) s = .next (settled (if optionApply b.option
      then t.startApply (stagedOf .define b) e
      else (t.finish (entryCompletion (stagedOf .define b) .ok (some e) 0), []))) := by
    rw [show Instr.define b = rowOf (stagedOf .define b) from rfl, exec_due ready,
      begin_define (s := s.afterTake) passes six attached, inserted, entry]
  have rest : t.atRest = true := atRest_same (readyFor_atRest ready) rfl rfl
  have fresh := (defineRefusal_none ((defineRefusal_eq attached).trans six)).fresh
  have found : t.entry (keyOf b) = some e :=
    find_insertEntry (e := e) fun y hy => entry_none fresh y hy
  obtain ⟨y, held, port, addr, width, state⟩ : ∃ y, t.target (slotOf b) = some y ∧
      y.port = x.port ∧ y.busAddr = x.busAddr ∧ y.width = x.width ∧ y.state = x.state := by
    by_cases marker : cls = .marker
    · refine ⟨{ x with marker := some (addrOf b) }, ?_, rfl, rfl, rfl, rfl⟩
      simp only [t, if_pos marker]
      exact target_setTarget s (slotOf b) (some { x with marker := some (addrOf b) })
    · refine ⟨x, ?_, rfl, rfl, rfl, rfl⟩
      simp only [t, if_neg marker]
      exact attached
  have sound : y.state ≠ .quarantined := by
    have := sound_of_passes passes rfl
    rw [state]
    simpa [isQuarantined_eq attached] using this
  have applies (apply : b.option.getLsbD 5 = true) : exec (.define b) s = .next (settled
      (t.working (stagedOf .define b) (.apply (if b.mask = 0xFF then .write else .baseRead) none),
        [(x.port, .executor)])) := by
    rw [begun, if_pos (show optionApply b.option = true from apply), State.startApply,
      startWork_eq (s := t) (c := stagedOf .define b) held, port]
  refine ⟨fun noApply => ?_, fun apply free => ?_, fun apply occupied => ?_⟩
  · rw [begun, if_neg (by rw [optionApply, noApply]; decide)]
    refine congrArg Host.Outcome.next
      (settled_ends (readyFor_noCommand ready) (readyFor_atRest ready) ?_ ?_ ?_ _) <;> rfl
  · rw [applies apply, ← port, settled_apply (s := t) (c := stagedOf .define b) rest
      (by rw [port]; exact free) found held sound, addr, width, port]
    have form := writeStepForm_first e x.width
    exact congrArg (fun g => Host.Outcome.next (State.inFlight _ x.port
      (formedFlight .executor (slotOf b) x.busAddr (s.busTiming x.port) g))) form
  · have tport : t.port x.port = s.port x.port := port_congr rfl rfl _
    rw [applies apply, settled_working_waits rest (by rwa [tport]), tport]

/-! ### UPDATE -/

/-- The entry after an UPDATE is taken (R10). -/
theorem updatedEntry_eq (e : Entry) (b : CmdBytes) : updatedEntry e b = { e with
    expected := b.value, mask := if b.mask = 0 then e.mask else b.mask
    state := if e.cls = .restoreOnly then e.state else .pending
    attempts := 0, lastObserved := none } := by
  unfold updatedEntry
  by_cases compared : e.cls = .restoreOnly
  · simp [Entry.compared, compared]
  · simp [Entry.compared, compared]

/-- A change of the one entry of a key. -/
theorem modifyEntry_only {k : Key} {e : Entry} (only : ∀ y ∈ s.image.entries, y.key = k → y = e)
    (f : Entry → Entry) : s.modifyEntry k f = { s with image := { s.image with
      entries := s.image.entries.map fun y => if y.key = k then f e else y } } := by
  have change : (s.image.entries.map fun y => if y.key = k then f y else y) =
      s.image.entries.map fun y => if y.key = k then f e else y :=
    List.map_congr_left fun y hy => by
      split
      · rename_i hk; rw [only y hy hk]
      · rfl
  rw [State.modifyEntry, change]

/-- An entry after the failed end of its UPDATE or its DEFINE with APPLY (R11). -/
def Entry.applyFailed (e : Entry) : Entry :=
  { e with state := if e.cls = .restoreOnly then e.state else .unseen }

/-- An UPDATE or a DEFINE with APPLY that ends before its verify read ended DONE (R11, R145). -/
theorem applyEndsFailed_eq {c : Staged} {e : Entry} (found : s.entry (keyOf c.body) = some e)
    (only : ∀ y ∈ s.image.entries, y.key = keyOf c.body → y = e) (st : Status) :
    s.applyEndsFailed c st = State.finish
      { s with image := { s.image with
          entries := s.image.entries.map fun y => if y.key = keyOf c.body then e.applyFailed else y } }
      { completionOf c st with
        aliasNo := c.body.aliasNo, addr := addrOf c.body, expected := e.expected, mask := e.mask
        detail := entryDetail e.applyFailed } := by
  have key := (entry_some found).2
  let f (y : Entry) : Entry := if y.compared then { y with state := .unseen } else y
  have failed : f e = e.applyFailed := by
    unfold Entry.applyFailed
    by_cases h : e.cls = .restoreOnly
    · rw [if_pos h]
      exact if_neg (by simp [Entry.compared, h])
    · rw [if_neg h]
      exact if_pos (compared_iff.2 h)
  have entry : (s.modifyEntry (keyOf c.body) f).entry (keyOf c.body) = some e.applyFailed := by
    rw [modifyEntry_entry (f := f) fun y => by simp only [f]; split <;> rfl, found, ← failed]
    simp [key]
  have modified := modifyEntry_only only f
  rw [failed] at modified
  change (s.modifyEntry (keyOf c.body) f).finish (entryCompletion c st
    ((s.modifyEntry (keyOf c.body) f).entry (keyOf c.body)) 0) = _
  rw [entry, modified]
  rfl

/-- One entry in the place of another is what its key finds. -/
theorem find_swapped {k : Key} {e e' : Entry} (found : s.entry k = some e) (key : e'.key = k) :
    (s.image.entries.map fun y => if y.key = k then e' else y).find? (·.key == k) = some e' := by
  have same : ((fun y : Entry => y.key == k) ∘ fun y => if y.key = k then e' else y) =
      fun y => y.key == k := funext fun y => by
    simp only [Function.comp_apply]
    split
    · rename_i h; rw [key, h]
    · rfl
  rw [List.find?_map, same]
  change (s.entry k).map _ = _
  simp [found, (entry_some found).2]

/-- Of two entries put in the place of one, the later stays. -/
theorem swapped_swapped {k : Key} {e' : Entry} (e'' : Entry) (key : e'.key = k) (es : List Entry) :
    ((es.map fun y => if y.key = k then e' else y).map fun y => if y.key = k then e'' else y) =
      es.map fun y => if y.key = k then e'' else y := by
  rw [List.map_map]
  refine List.map_congr_left fun y _ => ?_
  by_cases h : y.key = k <;> simp [h, key]

/-- Settles O22: the change of the entry, and the first request at each kind of port. -/
theorem updateIsTakenAtOnce : Obligations.UpdateIsTakenAtOnce := by
  intro b s x e ready passes six attached found m e' failed swap taken u
  have key : e.key = keyOf b := (entry_some found).2
  have updated : updatedEntry e b = e' := updatedEntry_eq e b
  have apart : breaksMarker e' = false := by
    simp only [stepSix, firstFailing_cons_none, found, Option.map_some, Option.getD_some, updated] at six
    simpa using six.2.1
  let t : State := taken (swap e')
  have tookIt : s.afterTake.takeUpdate e' = t := by
    rw [takeUpdate_eq (s := s.afterTake), show e'.key = keyOf b from key]
    rfl
  have begun : exec (.update b) s = .next (settled (u, [(x.port, .executor)])) := by
    rw [show Instr.update b = rowOf (stagedOf .update b) from rfl, exec_due ready]
    change Host.Outcome.next (settled (s.afterTake.beginUpdate (stagedOf .update b))) = _
    rw [State.beginUpdate, validated_passes (by exact passes)]
    simp only [stagedOf_body, show s.afterTake.entry (keyOf b) = some e from found, updated, apart,
      tookIt, State.startApply]
    rw [if_neg (by decide)]
    exact congrArg (fun r => Host.Outcome.next (settled r))
      (startWork_eq (s := t) (c := stagedOf .update b) attached _)
  have rest : u.atRest = true := atRest_same (readyFor_atRest ready) rfl rfl
  have tport : u.port x.port = s.port x.port := port_congr rfl rfl _
  have sound : x.state ≠ .quarantined := by
    simpa [isQuarantined_eq attached] using sound_of_passes passes rfl
  have only (y : Entry) (hy : y ∈ swap e') (hk : y.key = keyOf b) : y = e' := by
    obtain ⟨z, -, rfl⟩ := List.mem_map.1 hy
    split at hk
    · rename_i h; rw [if_pos h]
    · rename_i h; exact absurd hk h
  have there : t.entry (keyOf b) = some e' := find_swapped found key
  rw [begun]
  refine ⟨fun free => ?_, fun occupied => ?_, fun down below => ?_⟩
  · rw [settled_apply (s := t) (c := stagedOf .update b) (atRest_same rest rfl rfl) free there attached
      sound]
    have form := writeStepForm_first e' x.width
    have addr : e'.key.addr = addrOf b := by rw [show e'.key = keyOf b from key]; rfl
    rw [addr] at form
    exact congrArg (fun g => Host.Outcome.next (State.inFlight _ x.port
      (formedFlight .executor (slotOf b) x.busAddr (s.busTiming x.port) g))) form
  · rw [settled_working_waits (s := t) (atRest_same rest rfl rfl) (by
      rw [show t.port x.port = s.port x.port from tport]; exact occupied)]
    rw [show t.port x.port = s.port x.port from tport]
  · have answer := answerDown_executor (s := u) (x := x) rfl nofun attached below
    change _ = (State.applyEndsFailed _ (stagedOf .update b) .portDown, []) at answer
    rw [applyEndsFailed_eq (e := e') there only] at answer
    rw [settled_down rest (by rw [tport, down]) (by decide) _ answer (atRest_same rest rfl rfl)]
    have unapplied : e'.applyFailed = failed := by
      simp only [Entry.applyFailed, failed, e']
      by_cases compared : e.cls = .restoreOnly
      · simp only [if_pos compared]
      · simp only [if_neg compared]
    have entries : ((swap e').map fun y => if y.key = keyOf b then failed else y) = swap failed :=
      swapped_swapped (e' := e') failed key s.image.entries
    have signature : signatureOf (swap e') = signatureOf (swap failed) := by
      rw [← entries]
      refine signatureOf_congr (Eq.trans (List.map_congr_left fun y hy => ?_) List.map_map.symm)
      simp only [Function.comp_apply]
      split
      · rename_i hk; rw [only y hy hk]; rfl
      · rfl
    simp only [taken]
    rw [← signature, ← entries, ← unapplied]
    refine congrArg Host.Outcome.next (Eq.trans ?_ (finish_eq_answered ?_ _))
    · rfl
    · exact readyFor_noCommand (s := s) ready

end Machine
end Sys2Proof
end

section
/-! PROOF. The steps of a restore by either engine, and the take of a RESTORE (R58 to R60, R63, R65, R76,
R78, R133). -/

namespace Sys2Proof
namespace Machine

variable {s t : State}

/-! ### The transactions of a restore -/

/-- Each transaction of a restore goes onto the free port of its target, formed from the entry as it
stands (R60). -/
theorem settled_restore {p : PortId} {eng : Engine} {g : RestoreProgress} {e : Entry} {x : Target}
    (rest : s.atRest = true) (free : s.portFree p = true) (own : s.Restores eng g)
    (step : g.step = some e.key) (found : s.entry e.key = some e)
    (attached : s.target g.aliasNo = some x) (sound : x.state ≠ .quarantined)
    (based : g.stage = .write → e.mask ≠ 0xFF → g.base ≠ none) :
    settled (s, [(p, requestOf eng)]) = s.inFlight p
      (formedFlight eng g.aliasNo x.busAddr (s.busTiming p)
        (writeStepForm (stageStep g.stage) e g.base x.width)) := by
  have sound : s.isQuarantined g.aliasNo = false := by simpa [isQuarantined_eq attached] using sound
  have formed := formFor_eq attached p eng (writeStepForm (stageStep g.stage) e g.base)
  cases eng with
  | scrub =>
    obtain ⟨state, restore⟩ := own
    refine settled_scrub_inFlight rest free ?_ rfl sound
    have based : ¬(g.stage = .write ∧ e.mask ≠ 0xFF ∧ g.base = none) :=
      fun ⟨write, part, absent⟩ => based write part absent
    have : s.formScrubRestore p g = s.formedOr (some (formedFlight .scrub g.aliasNo x.busAddr
        (s.busTiming p) (writeStepForm (stageStep g.stage) e g.base x.width))) := by
      simp only [State.formScrubRestore, step, found, if_neg based, formed]
    unfold State.formScrub
    rw [state, restore]
    exact this
  | executor =>
    obtain ⟨c, turned, command⟩ := own
    refine settled_executor_inFlight rest free ?_ rfl sound
    unfold State.executorFlight
    simp only [command, step, Option.bind_some, found, formed]

/-- The first transaction of a restore step (R60). -/
theorem writeStepForm_restoreStep (g : RestoreProgress) (phase : RestorePhase) (e : Entry) (w : Width) :
    writeStepForm (stageStep (restoreStep g phase e).stage) e (restoreStep g phase e).base w =
      restoreForm e w := by
  unfold restoreStep restoreForm
  by_cases full : e.mask = 0xFF
  · simp only [if_pos full, stageStep, writeStepForm, Entry.writeValue]
  · simp only [if_neg full, stageStep, writeStepForm]

/-- A step of a restore begins at the free port of its target (R60). -/
theorem settled_restoreBegins {p : PortId} {eng : Engine} {g : RestoreProgress} {e : Entry} {x : Target}
    {phase : RestorePhase} (rest : s.atRest = true) (free : s.portFree p = true)
    (own : s.Restores eng (restoreStep g phase e)) (found : s.entry e.key = some e)
    (attached : s.target g.aliasNo = some x) (sound : x.state ≠ .quarantined) :
    settled (s, [(p, requestOf eng)]) = s.inFlight p
      (formedFlight eng g.aliasNo x.busAddr (s.busTiming p) (restoreForm e x.width)) := by
  rw [settled_restore (g := restoreStep g phase e) rest free own rfl found attached sound,
    writeStepForm_restoreStep]
  · rfl
  · intro write part
    change (if e.mask = 0xFF then RestoreStage.write else .baseRead) = _ at write
    rw [if_neg part] at write
    cases write

/-! ### The walk -/

/-- What a restore makes of a target at its next step (R59). -/
theorem restoreGoOn_general {eng : Engine} {g : RestoreProgress} {e : Entry} {x : Target}
    (attached : s.target g.aliasNo = some x) (sound : x.state ≠ .quarantined)
    (phase : g.phase = .general)
    (next : s.nextEntry g.lastWritten (fun y => y.key.aliasNo == g.aliasNo && y.restored) = some e) :
    s.restoreGoOn eng g = (s.setRestore eng (restoreStep g .general e), [(x.port, requestOf eng)]) := by
  have sound : s.isQuarantined g.aliasNo = false := by simpa [isQuarantined_eq attached] using sound
  simp only [State.restoreGoOn, sound, phase, State.restoreNext, next, State.beginRestoreStep,
    placeFor_eq attached]
  rfl

theorem restoreMarkerPhase_eq {eng : Engine} {g : RestoreProgress} {x : Target}
    (attached : s.target g.aliasNo = some x) : s.restoreMarkerPhase eng g =
      match x.marker.bind fun addr => s.entry { aliasNo := g.aliasNo, addr := addr } with
      | some e => s.beginRestoreStep eng g .marker e
      | none => (s.completeRestore eng g, []) := by
  unfold State.restoreMarkerPhase
  rw [attached]
  rfl

/-- With no further entry the walk comes to the marker (R59). -/
theorem restoreGoOn_marker {eng : Engine} {g : RestoreProgress} {e : Entry} {x : Target}
    (attached : s.target g.aliasNo = some x) (sound : x.state ≠ .quarantined)
    (phase : g.phase = .general)
    (next : s.nextEntry g.lastWritten (fun y => y.key.aliasNo == g.aliasNo && y.restored) = none)
    (marker : (x.marker.bind fun addr => s.entry { aliasNo := g.aliasNo, addr := addr }) = some e) :
    s.restoreGoOn eng g = (s.setRestore eng (restoreStep g .marker e), [(x.port, requestOf eng)]) := by
  have sound : s.isQuarantined g.aliasNo = false := by simpa [isQuarantined_eq attached] using sound
  simp only [State.restoreGoOn, sound, phase, State.restoreNext, next, restoreMarkerPhase_eq attached,
    marker, State.beginRestoreStep, placeFor_eq attached]
  rfl

/-- A restore that has nothing left to write ends complete (R59, R63). -/
theorem restoreGoOn_complete {eng : Engine} {g : RestoreProgress} {x : Target}
    (attached : s.target g.aliasNo = some x) (sound : x.state ≠ .quarantined)
    (done : g.phase = .general →
      s.nextEntry g.lastWritten (fun y => y.key.aliasNo == g.aliasNo && y.restored) = none ∧
      (x.marker.bind fun addr => s.entry { aliasNo := g.aliasNo, addr := addr }) = none) :
    s.restoreGoOn eng g = (s.completeRestore eng g, []) := by
  have sound : s.isQuarantined g.aliasNo = false := by simpa [isQuarantined_eq attached] using sound
  cases phase : g.phase with
  | general =>
    obtain ⟨next, marker⟩ := done phase
    simp only [State.restoreGoOn, sound, phase, State.restoreNext, next,
      restoreMarkerPhase_eq attached, marker]
    rfl
  | marker =>
    simp only [State.restoreGoOn, sound, phase]
    rfl

theorem setTarget_setTarget (a : Fin 16) (x y : Option Target) :
    (s.setTarget a x).setTarget a y = s.setTarget a y := by
  simp [State.setTarget, Vector.set_set]

/-- The end of a complete restore (R63, R78). -/
theorem completeRestore_eq {eng : Engine} {g : RestoreProgress} {x : Target}
    (attached : s.target g.aliasNo = some x) : s.completeRestore eng g =
      ((s.setTarget g.aliasNo (some { x with state := .online, restorer := none })).logDrift
        .restoreDone (some (aliasByte g.aliasNo)) none none (some (byteHeld g.written))).endRestore
          eng g false := by
  rw [State.completeRestore, modifyTarget_some attached]

/-! ### RESTORE -/

/-- The ALIAS byte of a command in range, as a record carries it (R119). -/
theorem aliasByte_slotOf {b : CmdBytes} (h : aliasInRange b = true) : aliasByte (slotOf b) = b.aliasNo := by
  have small := aliasInRange_iff.1 h
  apply BitVec.eq_of_toNat_eq
  simp only [aliasByte, slotOf, Fin.ofNat, BitVec.toNat_ofNat]
  omega

/-- Settles O25: the claim with the first step of the walk, or with its end. -/
theorem restoreClaimsAndWalks : Obligations.RestoreClaimsAndWalks := by
  intro b s x ready passes attached rise first
  let y : Target := { x with state := .restoring, restorer := some .executor }
  let g : RestoreProgress := RestoreProgress.start (slotOf b)
  let c : Staged := stagedOf .restore b
  let t : State := (s.afterTake.setTarget (slotOf b) (some y)).working c (.restore g false)
  have begun : exec (.restore b) s = .next (settled (t.restoreGoOn .executor g)) := by
    rw [show Instr.restore b = rowOf (stagedOf .restore b) from rfl, exec_due ready]
    change Host.Outcome.next (settled (s.afterTake.beginRestore (stagedOf .restore b))) = _
    rw [State.beginRestore, validated_passes (by exact passes), State.claimTarget]
    simp only [stagedOf_body, modifyTarget_some (s := s.afterTake) attached]
    rfl
  have held : t.target g.aliasNo = some y := target_setTarget s.afterTake (slotOf b) (some y)
  have sound : y.state ≠ .quarantined := nofun
  have rest : t.atRest = true := atRest_same (readyFor_atRest ready) rfl rfl
  have step (e : Entry) (phase : RestorePhase) (found : s.entry e.key = some e)
      (free : s.portFree x.port = true) (goesOn : t.restoreGoOn .executor g =
        (t.setRestore .executor (restoreStep g phase e), [(y.port, .executor)])) :
      exec (.restore b) s = .next (State.inFlight (t.setRestore .executor (restoreStep g phase e))
        x.port (formedFlight .executor (slotOf b) x.busAddr (s.busTiming x.port)
          (restoreForm e x.width))) := by
    rw [begun, goesOn]
    let u : State := t.setRestore .executor (restoreStep g phase e)
    exact congrArg _ (settled_restoreBegins (s := u) (eng := .executor) (x := y)
      (atRest_same rest rfl rfl) free ⟨c, false, rfl⟩ found held sound)
  have inRange : aliasInRange b = true := (refusal_none_iff.1 passes).1
  let wanted (e : Entry) : Bool := e.key.aliasNo == slotOf b && e.restored
  let marker := x.marker.bind fun addr => s.entry { aliasNo := slotOf b, addr := addr }
  have walk : first = match s.nextEntry none wanted with
    | some e => some (e, .general)
    | none => marker.map fun e => (e, .marker) := rfl
  cases next : s.nextEntry none wanted with
  | some z =>
    rw [next] at walk
    refine ⟨fun e phase chosen free => ?_, fun nothing => by rw [nothing] at walk; cases walk⟩
    rw [chosen] at walk
    cases walk
    exact step z .general (entry_of_mem rise (nextEntry_some next).1) free
      (restoreGoOn_general (s := t) (g := g) held sound rfl next)
  | none =>
    rw [next] at walk
    dsimp only at walk
    cases found : marker with
    | some z =>
      rw [found] at walk
      refine ⟨fun e phase chosen free => ?_, fun nothing => by rw [nothing] at walk; cases walk⟩
      rw [chosen] at walk
      cases walk
      obtain ⟨addr, -, entry⟩ := Option.bind_eq_some_iff.1 found
      exact step z .marker (by rw [(entry_some entry).2]; exact entry) free
        (restoreGoOn_marker (s := t) (g := g) held sound rfl next found)
    | none =>
      rw [found] at walk
      refine ⟨fun e phase chosen => (by rw [chosen] at walk; cases walk), fun _ => ?_⟩
      rw [begun, restoreGoOn_complete (s := t) (g := g) held sound fun _ => ⟨next, found⟩,
        completeRestore_eq (s := t) (g := g) held]
      have twice := setTarget_setTarget (s := s.afterTake) (slotOf b) (some y)
        (some { y with state := .online, restorer := none })
      let r : Completion := { completionOf c .ok with aliasNo := b.aliasNo }
      rw [show aliasByte g.aliasNo = b.aliasNo from aliasByte_slotOf inRange]
      refine congrArg Host.Outcome.next ((congrArg (fun u : State => settled
        ((u.logDrift .restoreDone (some b.aliasNo) none none (some 0)).finish r, [])) twice).trans ?_)
      refine settled_ends (readyFor_noCommand ready) (readyFor_atRest ready) ?_ ?_ ?_ _ <;> rfl

end Machine
end Sys2Proof
end

section
/-! PROOF. The end of a transaction and its timeouts: what the port does, and the transactions of the
commands that need one only (R72, R79, R80, R90 to R94, R96, R104, R121, R123, R131, R132, R146). -/

namespace Sys2Proof
namespace Machine

variable {s t : State} {p : PortId} {f : Flight}

/-! ### A port that becomes IDLE -/

/-- A port BUSY with a transaction, no request waiting. -/
theorem busy_fields (busy : s.port p = { s.port p with
      state := .busy, flight := some f, waiting := [] }) :
    (s.port p).state = .busy ∧ (s.port p).flight = some f ∧ (s.port p).waiting = [] :=
  ⟨congrArg Port.state busy, congrArg Port.flight busy, congrArg Port.waiting busy⟩

theorem portIdle_atRest (rest : s.atRest = true) (empty : (s.port p).waiting = [])
    (same : ∀ q, t.port q = s.port q) : (t.portIdle p).atRest = true :=
  atRest_of_port fun q => by
    unfold State.portIdle
    by_cases e : q = p
    · subst e; exact canAct_of_waiting_nil (by simp [same, empty])
    · simp [e, same, atRest_port rest]

theorem portIdle_portFree (empty : (s.port p).waiting = []) (same : ∀ q, t.port q = s.port q) :
    (t.portIdle p).portFree p = true := by
  simp [State.portFree, State.portIdle, same, empty]

/-- A transaction in flight ends with its outcome (R92, R94). -/
theorem exec_transactionEnd {refused : Option SentByte} {v : Byte} {o : BusOutcome}
    (running : s.resetnLow = false) (flight : (s.port p).flight = some f)
    (outcome : endOutcome f.form refused v = some o) :
    exec (.transactionEnd p refused v) s = .next (s.endTransaction p f o) := by
  rw [exec, execTransactionEnd, whileRunning_running running]
  simp only [flight, outcome]

/-- A transaction whose outcome leaves its requester with nothing to ask for: the port becomes IDLE
(R94). -/
theorem endTransaction_ends {o : BusOutcome} (rest : s.atRest = true)
    (empty : (s.port p).waiting = []) (delivered : s.outcomeOf p f o = (t, [])) :
    s.endTransaction p f o = t.portIdle p := by
  have same (q : PortId) : t.port q = s.port q := by simpa [delivered] using outcomeOf_port p f o q (s := s)
  simp only [State.endTransaction, delivered]
  exact settled_atRest (portIdle_atRest rest empty same)

/-! ### Timeouts -/

/-- A timeout of the transaction in flight (R91, R93, R94). -/
theorem exec_timeout {i : Instr} (running : s.resetnLow = false) (flight : (s.port p).flight = some f)
    (timeout : i = .stretchTimeout p ∨ i = .startCheckTimeout p ∧ f.phase = .startCheck) :
    exec i s = .next (s.timeOut p f) := by
  rcases timeout with rfl | ⟨rfl, phase⟩
  · rw [exec, execStretchTimeout, whileRunning_running running]
    simp only [flight]
  · rw [exec, execStartCheckTimeout, whileRunning_running running]
    simp only [flight, phase, if_true]

theorem outcomeOf_settings (o : BusOutcome) : (s.outcomeOf p f o).1.settings = s.settings :=
  congrArg Kept.settings (outcomeOf_kept p f o (s := s))

/-- A port that enters RECOVERING has nothing left to act on. -/
theorem startRounds_atRest {origin : RecoveryOrigin} (rest : s.atRest = true)
    (same : ∀ q, t.port q = s.port q) (up : (s.port p).state ≠ .down) :
    (t.startRounds p origin).atRest = true :=
  atRest_of_port fun q => by
    rw [startRounds_eq]
    by_cases e : q = p
    · subst e; exact canAct_of_recovering (by simp [same, up])
    · simp [e, same, atRest_port rest]

/-- A transaction that times out and leaves its requester with nothing to ask for: the port enters
RECOVERING at round 1 (R94, R96). -/
theorem timeOut_ends (rest : s.atRest = true) (busy : (s.port p).state = .busy)
    (delivered : s.outcomeOf p f .busTimeout = (t, [])) :
    s.timeOut p f = t.setPort p { s.port p with
      state := .recovering, flight := none
      recovery := some
        { round := .first, origin := .timeout, timing := s.busTiming p, discarded := false } } := by
  have same (q : PortId) : t.port q = s.port q := by
    simpa [delivered] using outcomeOf_port p f .busTimeout q (s := s)
  have settings : t.settings = s.settings := by
    simpa [delivered] using outcomeOf_settings .busTimeout (s := s) (p := p) (f := f)
  have timing : t.busTiming p = s.busTiming p := by
    cases p <;> simp only [State.busTiming, State.speedOf, settings]
  have up : (s.port p).state ≠ .down := by rw [busy]; decide
  simp only [State.timeOut, delivered]
  rw [settled_atRest (startRounds_atRest rest same up), startRounds_eq, same, if_neg up, timing]

/-- Settles O36: nothing is delivered. -/
theorem discardedOutcomeReachesNoOne : Obligations.DiscardedOutcomeReachesNoOne := by
  intro p s f refused v running rest busy discarded sent
  obtain ⟨-, flight, empty⟩ := busy_fields busy
  obtain ⟨o, outcome⟩ : ∃ o, endOutcome f.form refused v = some o := by
    unfold endOutcome
    cases refused with
    | none => exact ⟨_, rfl⟩
    | some b =>
      simp only [List.contains_iff_mem, sent b rfl, if_true]
      cases b <;> exact ⟨_, rfl⟩
  rw [exec_transactionEnd running flight outcome, endTransaction_ends rest empty (t := s)]
  unfold State.outcomeOf
  rw [if_pos discarded]

/-! ### The probe of an ATTACH -/

/-- The outcome of the probe reaches the command unreported (R72, R79). -/
theorem outcomeOf_probe {c : Staged} {o : BusOutcome} (kept : f.discarded = false)
    (own : f.requester = .executor) (form : f.form = .probe)
    (command : s.command = some { staged := c, progress := .probe }) :
    s.outcomeOf p f o = (s.probeOutcome c o, []) := by
  unfold State.outcomeOf
  rw [if_neg (by rw [kept]; decide), State.deliver, own]
  dsimp only
  rw [if_pos form, State.executorOutcome, command]

theorem probeOutcome_fails {c : Staged} {o : BusOutcome} (failed : o.isDone = false) :
    s.probeOutcome c o = s.finish (attachCompletion c (statusOf o)) := by
  cases o with
  | done v => cases failed
  | _ => rfl

/-- Settles O18: the outcomes of the probe, one by one. -/
theorem probeEndDecidesTheSlot : Obligations.ProbeEndDecidesTheSlot := by
  intro b s p w f v running rest command port width busy own form kept t
  obtain ⟨state, flight, empty⟩ := busy_fields busy
  have delivered (o : BusOutcome) := outcomeOf_probe (p := p) (o := o) kept own form command
  have staged : attachPort b = p ∧ attachWidth b = w := ⟨attachPort_eq port, attachWidth_eq width⟩
  refine ⟨?_, ?_, fun i timeout => ?_⟩
  · rw [exec_transactionEnd (o := .done v) running flight rfl,
      endTransaction_ends rest empty (delivered _)]
    simp only [State.probeOutcome, stagedOf_body, attachCompletion, staged]
    rfl
  · rw [exec_transactionEnd (o := .noResponse) running flight (by rw [form]; rfl),
      endTransaction_ends rest empty (delivered _),
      probeOutcome_fails rfl]
    simp only [stagedOf_body, attachCompletion, staged]
    rfl
  · rw [exec_timeout running flight timeout, timeOut_ends rest state (delivered _),
      probeOutcome_fails rfl]
    simp only [stagedOf_body, attachCompletion, staged]
    rfl

/-! ### Outcomes that are reported -/

/-- The outcome of a transaction of the executor is counted, then reaches its command (R79, R80). -/
theorem outcomeOf_executor {x : Target} {o : BusOutcome} (kept : f.discarded = false)
    (own : f.requester = .executor) (form : f.form ≠ .probe)
    (attached : s.target f.aliasNo = some x) (port : x.port = p) (place : x.busAddr = f.busAddr)
    (counted : o ≠ .withheld)
    (below : o.isDone = false → failuresAfter x o < s.settings.failThreshold.toNat) :
    s.outcomeOf p f o = State.executorOutcome
      (s.setTarget f.aliasNo (some { x with failures := failuresAfter x o })) o := by
  unfold State.outcomeOf
  rw [if_neg (by rw [kept]; decide), State.deliver, own]
  dsimp only
  rw [if_neg form, ← port, ← place, report_counts attached counted below]

/-- The outcome of a transaction of the Scrub Engine is counted, then reaches the engine (R79, R80). -/
theorem outcomeOf_scrub {x : Target} {o : BusOutcome} (kept : f.discarded = false)
    (own : f.requester = .scrub) (attached : s.target f.aliasNo = some x) (port : x.port = p)
    (place : x.busAddr = f.busAddr) (counted : o ≠ .withheld)
    (below : o.isDone = false → failuresAfter x o < s.settings.failThreshold.toNat) :
    s.outcomeOf p f o = State.scrubOutcome
      (s.setTarget f.aliasNo (some { x with failures := failuresAfter x o })) o := by
  unfold State.outcomeOf
  rw [if_neg (by rw [kept]; decide), State.deliver, own]
  dsimp only
  rw [← port, ← place, report_counts attached counted below]

/-- A bus outcome of a transaction that ended with a stop condition is never WITHHELD (R92). -/
theorem endOutcome_counted {form : Form} {refused : Option SentByte} {v : Byte} {o : BusOutcome}
    (h : endOutcome form refused v = some o) : o ≠ .withheld := by
  unfold endOutcome at h
  split at h
  · cases h; nofun
  · split at h
    · split at h <;> cases h <;> nofun
    · cases h

theorem directOutcome_done {k : CommandKind} {b : CmdBytes} (kind : k = .read ∨ k = .write) (v : Byte) :
    s.directOutcome (stagedOf k b) (.done v) = s.finish
      { completionOf (stagedOf k b) .ok with
        aliasNo := b.aliasNo, addr := addrOf b, value := if k = .write then b.value else v } := by
  rcases kind with rfl | rfl <;> rfl

/-- Settles O35: each outcome of the one transaction. -/
theorem transactionEndCompletesTheCommand : Obligations.TransactionEndCompletesTheCommand := by
  intro p s f k b x v running rest busy kind form kept own command attached port place n ended
  obtain ⟨state, flight, empty⟩ := busy_fields busy
  have notProbe : f.form ≠ .probe := by
    rw [form]
    rcases kind with rfl | rfl <;> nofun
  have delivered {o : BusOutcome} (counted : o ≠ .withheld)
      (below : o.isDone = false → failuresAfter x o < s.settings.failThreshold.toNat) :
      s.outcomeOf p f o = (State.directOutcome (s.setTarget f.aliasNo
        (some { x with failures := failuresAfter x o })) (stagedOf k b) o, []) := by
    rw [outcomeOf_executor kept own notProbe attached port place counted below, State.executorOutcome,
      setTarget_command, command]
  refine ⟨?_, fun below => ?_⟩
  · rw [exec_transactionEnd (o := .done v) running flight rfl,
      endTransaction_ends rest empty (delivered (o := .done v) nofun nofun),
      directOutcome_done kind]
    rfl
  have fails {refused : Option SentByte} {o : BusOutcome} (counted : o ≠ .withheld)
      (failed : o.isDone = false) (outcome : endOutcome f.form refused v = some o) :
      exec (.transactionEnd p refused v) s = .next ((ended n (statusOf o) 0).portIdle p) := by
    have count : failuresAfter x o = n := by simp [failuresAfter, failed, n]
    rw [exec_transactionEnd running flight outcome,
      endTransaction_ends rest empty (delivered counted fun _ => count ▸ below),
      directOutcome_fails kind failed, count]
    rfl
  have width := directForm_eq b x.width kind
  refine ⟨fails (o := .noResponse) nofun rfl ?_, fails (o := .dataRefused) nofun rfl ?_,
    fun wide => fails (o := .dataRefused) nofun rfl ?_, fun read => fails (o := .noResponse) nofun rfl ?_,
    fun write => fails (o := .dataRefused) nofun rfl ?_, fun i timeout => ?_⟩
  · rw [form, width]
    rcases kind with rfl | rfl <;> rfl
  · rw [form, width]
    rcases kind with rfl | rfl <;> cases x.width <;> rfl
  · rw [form, width, wide]
    rcases kind with rfl | rfl <;> rfl
  · rw [form, width, read]
    cases x.width <;> rfl
  · rw [form, width, write]
    cases x.width <;> rfl
  · have count : failuresAfter x .busTimeout = n := rfl
    rw [exec_timeout running flight timeout,
      timeOut_ends rest state (delivered (o := .busTimeout) nofun fun _ => below),
      directOutcome_fails kind rfl, count]
    rfl

end Machine
end Sys2Proof
end

section
/-! PROOF. A port in recovery: the timeout that starts it, and how its rounds end (R90, R91, R93 to R98,
R104, R138, R146). -/

namespace Sys2Proof
namespace Machine

variable {s t : State}

/-! ### What happens at one port leaves the other alone -/

section OtherPort

variable {p q : PortId}

theorem launch_port_of_ne (h : q ≠ p) (f : Flight) : (s.launch p f).1.port q = s.port q := by
  unfold State.launch
  split <;> simp [h]

theorem startRounds_port_of_ne (h : q ≠ p) (o : RecoveryOrigin) :
    (s.startRounds p o).port q = s.port q := by simp [State.startRounds, h]

theorem enqueue_port_of_ne (h : q ≠ p) (r : Request) : (s.enqueue p r).port q = s.port q := by
  simp [State.enqueue, h]

theorem grantScrub_port_of_ne (h : q ≠ p) : (s.grantScrub p).1.port q = s.port q := by
  unfold State.grantScrub
  dsimp only
  split
  · rename_i hr; rw [formScrub_port hr, port_setPort_of_ne _ h]
  · rw [launch_port_of_ne h, port_setPort_of_ne _ h, port_setPort_of_ne _ h]

theorem grant_port_of_ne (h : q ≠ p) : (s.grant p).1.port q = s.port q := by
  unfold State.grant
  split
  · rfl
  · exact grantScrub_port_of_ne h
  · rw [startRounds_port_of_ne h, port_setPort_of_ne _ h]
  · dsimp only
    split
    · rename_i hr; rw [formExecutor_withdrawn hr, port_setPort_of_ne _ h]
    · rw [launch_port_of_ne h, port_setPort_of_ne _ h]

theorem grants_port_of_ne (h : q ≠ p) : (s.grants p).1.port q = s.port q := by
  unfold State.grants
  dsimp only
  split
  · rw [grant_port_of_ne h, grant_port_of_ne h]
  · exact grant_port_of_ne h

@[simp] theorem reportUngranted_port (a : Fin 16) (p q : PortId) (o : BusOutcome) :
    (s.reportUngranted a p o).port q = s.port q := by
  unfold State.reportUngranted
  split <;> simp

@[simp] theorem answerDown_port (p q : PortId) (r : Request) :
    (s.answerDown p r).1.port q = s.port q := by
  unfold State.answerDown
  split <;> (try split) <;> (try split) <;> simp

theorem arrive_port_of_ne (h : q ≠ p) (r : Request) : (s.arrive p r).1.port q = s.port q := by
  unfold State.arrive
  split
  · split
    · exact startRounds_port_of_ne h _
    · exact enqueue_port_of_ne h _
  · exact answerDown_port p q _
  · rw [grants_port_of_ne h, enqueue_port_of_ne h]
  · exact enqueue_port_of_ne h _
  · exact enqueue_port_of_ne h _

theorem act_port_of_ne (h : q ≠ p) : (s.act p).1.port q = s.port q := by
  unfold State.act
  split
  · exact grants_port_of_ne h
  · split
    · rw [arrive_port_of_ne h, port_setPort_of_ne _ h]
    · rfl
  · rfl
  · rfl

end OtherPort

/-! ### A RECOVERING port while the rest settles -/

/-- A port that is RECOVERING, with requests that have come to wait behind the first ones. -/
def State.Recovers (s : State) (p : PortId) (x : Port) : Prop :=
  x.state = .recovering ∧ ∃ late, s.port p = { x with waiting := x.waiting ++ late }

theorem recovers_arrive {p : PortId} {x : Port} (h : s.Recovers p x) (q : PortId) (r : Request) :
    (s.arrive q r).1.Recovers p x := by
  obtain ⟨state, late, port⟩ := h
  refine ⟨state, ?_⟩
  by_cases e : p = q
  · subst e
    have waits : s.arrive p r = (s.enqueue p r, []) := by
      unfold State.arrive
      rw [port, state]
    exact ⟨late ++ [r], by simp [waits, State.enqueue, port]⟩
  · exact ⟨late, by rw [arrive_port_of_ne e, port]⟩

theorem recovers_act {p : PortId} {x : Port} (h : s.Recovers p x) (q : PortId)
    (acts : (s.port q).canAct = true) : (s.act q).1.Recovers p x := by
  obtain ⟨state, late, port⟩ := h
  refine ⟨state, late, ?_⟩
  by_cases e : p = q
  · subst e
    rw [canAct_of_recovering (by rw [port]; exact state)] at acts
    cases acts
  · rw [act_port_of_ne e, port]

/-- Settling leaves a RECOVERING port at its round, and loses none of its waiting requests. -/
theorem recovers_settled {p : PortId} {x : Port} {r : Reaction} (h : r.1.Recovers p x) :
    (settled r).Recovers p x :=
  settled_induction (P := fun u => u.Recovers p x)
    (fun _ _ ⟨state, late, port⟩ => ⟨state, late, port⟩)
    (fun _ q r h => recovers_arrive h q r) (fun _ q h acts => recovers_act h q acts) r h

/-- Settles O34: the port at a timeout, whatever its requester makes of the outcome. -/
theorem startCheckAndTimeouts : Obligations.StartCheckAndTimeouts := by
  intro p s running
  refine ⟨fun f state flight => ⟨?_, fun i timeout => ?_⟩, fun none => ?_⟩
  · rw [exec, execStartCheckLinesHigh, whileRunning_running running]
    simp only [flight]
  · let x : Port := { s.port p with
      state := .recovering, flight := none
      recovery := some
        { round := .first, origin := .timeout, timing := s.busTiming p, discarded := false } }
    have begun : ((s.outcomeOf p f .busTimeout).1.startRounds p .timeout).port p = x := by
      have settings := outcomeOf_settings .busTimeout (s := s) (p := p) (f := f)
      rw [startRounds_eq, port_setPort, outcomeOf_port, if_neg (by rw [state]; decide)]
      cases p <;> simp only [State.busTiming, State.speedOf, settings, x]
    obtain ⟨-, late, port⟩ := recovers_settled (p := p) (x := x)
      (r := ((s.outcomeOf p f .busTimeout).1.startRounds p .timeout, (s.outcomeOf p f .busTimeout).2))
      ⟨rfl, [], by rw [begun]; simp⟩
    refine ⟨_, exec_timeout running flight timeout, ?_⟩
    rw [State.timeOut, port]
    exact ⟨rfl, rfl, rfl, rfl, late, rfl⟩
  · refine ⟨?_, ?_, ?_, fun r v => ?_⟩
    · rw [exec, execStartCheckLinesHigh, whileRunning_running running]; simp only [none]
    · rw [exec, execStartCheckTimeout, whileRunning_running running]; simp only [none]
    · rw [exec, execStretchTimeout, whileRunning_running running]; simp only [none]
    · rw [exec, execTransactionEnd, whileRunning_running running]; simp only [none]

/-! ### Rounds that end -/

/-- The executor's PORT_RESET completes with the rounds that were its own (R98, R104). -/
theorem roundsReported_eq {r : Recovery} {b : CmdBytes} (succeeded : Bool)
    (own : r.origin = .command → r.discarded = false →
      s.command = some { staged := stagedOf .portReset b, progress := .portReset }) :
    s.roundsReported r succeeded = if r.origin = .command ∧ r.discarded = false
      then State.answered { s with command := none }
        { completionOf (stagedOf .portReset b) (if succeeded then .ok else .portDown) with
          value := b.value }
      else s := by
  unfold State.roundsReported
  split
  · rename_i h
    rw [State.endPortReset, own h.1 h.2]
    rfl
  · rfl

/-- A round that finds a line low, or that SCL ends, fails (R95). -/
theorem exec_roundFails {p : PortId} {i : Instr} (running : s.resetnLow = false)
    (h : i = .recoveryRoundEnd p true false ∨ i = .recoveryRoundEnd p false true ∨
      i = .recoveryRoundEnd p false false ∨ i = .recoveryStretchTimeout p) :
    exec i s = .next (s.roundEnds p false) := by
  rcases h with rfl | rfl | rfl | rfl
  · rw [exec, execRecoveryRoundEnd, whileRunning_running running]; rfl
  · rw [exec, execRecoveryRoundEnd, whileRunning_running running]; rfl
  · rw [exec, execRecoveryRoundEnd, whileRunning_running running]; rfl
  · rw [exec, execRecoveryStretchTimeout, whileRunning_running running]

/-- Settles O40: success, the second round, and the last failure. -/
theorem recoveryRoundsEnd : Obligations.RecoveryRoundsEnd := by
  intro p s r b running rest busy state own ended logged down
  have recovery : (s.port p).recovery = some r := congrArg Port.recovery busy
  have empty : (s.port p).waiting = [] := congrArg Port.waiting busy
  refine ⟨?_, fun i fails => ?_⟩
  · have success : exec (.recoveryRoundEnd p true true) s = .next (s.roundSucceeds p r) := by
      rw [exec, execRecoveryRoundEnd, whileRunning_running running]
      simp only [State.roundEnds, recovery]
      rfl
    let u : State := if (s.port p).state = .down then (s.portIdle p).logPort .portUp p else s.portIdle p
    have command : u.command = s.command := by simp only [u]; split <;> simp
    have idle : u.atRest = true := by
      have idle := portIdle_atRest (t := s) rest empty fun _ => rfl
      simp only [u]
      split
      · exact atRest_same idle rfl rfl
      · exact idle
    rw [success]
    change Host.Outcome.next (settled (u.roundsReported r true, [])) = _
    rw [roundsReported_eq (b := b) true fun h h' => command.trans (own h h'), settled_atRest]
    · rfl
    · split
      · exact atRest_same idle rfl rfl
      · exact idle
  · rw [exec_roundFails running fails]
    simp only [State.roundEnds, recovery]
    cases round : r.round with
    | first =>
      rw [if_pos rfl]
      rfl
    | second =>
      let u : State := if (s.port p).state = .down then down else down.logPort .portDown p
      have command : u.command = s.command := by simp only [u]; split <;> simp [down]
      have idle : u.atRest = true := by
        have idle : down.atRest = true := atRest_of_port fun q => by
          by_cases e : q = p
          · subst e; exact canAct_of_waiting_nil (by simp [down, empty])
          · simp [down, e, atRest_port rest]
        simp only [u]
        split
        · exact idle
        · exact atRest_same idle rfl rfl
      rw [if_neg (by decide)]
      change Host.Outcome.next ((settled (u, [])).roundsReported r false) = _
      rw [settled_atRest idle, roundsReported_eq (b := b) false fun h h' => command.trans (own h h')]
      rfl

/-! ### A port that enters DOWN -/

/-- A DOWN port with one of its waiting requests to answer, which leaves nothing to ask for (R97). -/
theorem settle_answers {p : PortId} {r : Request} {n : Nat} (down : (s.port p).state = .down)
    (next : (s.port p).nextAtDown = some r) (notReset : r ≠ .portReset)
    (others : ∀ q, q ≠ p → (s.port q).canAct = false)
    (answer : (s.setPort p { s.port p with waiting := (s.port p).waiting.erase r }).answerDown p r =
      (t, [])) : State.settle (n + 1) [] s = State.settle n [] t := by
  have acts : (s.port p).canAct = true := by simp [Port.canAct, down, next]
  have arrives : (s.setPort p { s.port p with waiting := (s.port p).waiting.erase r }).arrive p r =
      (t, []) := by
    unfold State.arrive
    rw [port_setPort, down]
    cases r with
    | portReset => exact absurd rfl notReset
    | scrub => exact answer
    | executor => exact answer
  rw [settle_act n p acts others, act_down down next, arrives]

/-- A DOWN port with a waiting PORT_RESET to start and no rounds under way (R98). -/
theorem settle_rounds {p : PortId} {n : Nat} (down : (s.port p).state = .down)
    (next : (s.port p).nextAtDown = some .portReset) (idle : (s.port p).recovery = none)
    (others : ∀ q, q ≠ p → (s.port q).canAct = false) :
    State.settle (n + 1) [] s = State.settle n [] (s.setPort p { s.port p with
      waiting := (s.port p).waiting.erase .portReset, flight := none
      recovery := some
        { round := .first, origin := .command, timing := s.busTiming p, discarded := false } }) := by
  have acts : (s.port p).canAct = true := by simp [Port.canAct, down, next]
  rw [settle_act n p acts others, act_down down next]
  unfold State.arrive
  simp only [port_setPort, down, idle, if_true, startRounds_eq, setPort_setPort]
  cases p <;> rfl

/-- A DOWN port answers a scrub read, the failure is counted, and the engine paces on (R39, R97). -/
theorem answerDown_scrub {p : PortId} {k : Key} {x : Target} (reading : s.scrub.state = .readWait)
    (current : s.scrub.current = some k) (noRestore : s.scrub.restore = none)
    (attached : s.target k.aliasNo = some x) (place : x.port = p)
    (below : min (x.failures + 1) 15 < s.settings.failThreshold.toNat) :
    s.answerDown p .scrub =
      ((s.setTarget k.aliasNo (some { x with failures := min (x.failures + 1) 15 })).paced, []) := by
  subst place
  simp only [State.answerDown, State.scrubAlias, noRestore, current, Option.map_some,
    reportUngranted_counts attached below, State.scrubOutcome, setTarget_scrub, reading]
  rfl

/-- A round 2 that fails at a RECOVERING port: the port enters DOWN, and answers (R96, R97). -/
theorem roundEnds_down {p : PortId} {r : Recovery} (recovery : (s.port p).recovery = some r)
    (second : r.round = .second) (up : (s.port p).state = .recovering) :
    s.roundEnds p false = (settled (State.logPort
      (s.setPort p { s.port p with state := .down, recovery := none }) .portDown p, [])).roundsReported
        r false := by
  simp only [State.roundEnds, recovery, second, State.roundsFail, up]
  rfl

/-- A DOWN port with a PORT_RESET and a scrub read waiting, in either order: the one is answered and the
other starts its rounds (R97, R98). -/
theorem settled_answer_and_rounds {p : PortId} {v : State} (down : (s.port p).state = .down)
    (idle : (s.port p).recovery = none)
    (both : (s.port p).waiting = [.portReset, .scrub] ∨ (s.port p).waiting = [.scrub, .portReset])
    (others : ∀ q, q ≠ p → (s.port q).canAct = false)
    (answer : ∀ x, (s.setPort p x).answerDown p .scrub = (v.setPort p x, []))
    (timing : v.busTiming p = s.busTiming p) (same : ∀ q, v.port q = s.port q) :
    settled (s, []) = v.setPort p { s.port p with
      waiting := [], flight := none
      recovery := some
        { round := .first, origin := .command, timing := s.busTiming p, discarded := false } } := by
  have end_rest (x : Port) (h : x.waiting = []) : (v.setPort p x).atRest = true :=
    atRest_of_port fun q => by
      by_cases e : q = p
      · subst e; exact canAct_of_waiting_nil (by rw [port_setPort, h])
      · rw [port_setPort_of_ne _ e, same]; exact others q e
  have apart (t : State) (x : Port) (ports : ∀ q, t.port q = s.port q) (q : PortId) (h : q ≠ p) :
      ((t.setPort p x).port q).canAct = false := by
    rw [port_setPort_of_ne _ h, ports]; exact others q h
  rw [settled, bound_eq]
  rcases both with wait | wait
  · rw [settle_rounds down (by simp [Port.nextAtDown, wait, idle]) idle others, wait,
      settle_answers (p := p) (r := .scrub) (t := v.setPort p _) (by rw [port_setPort, down])
        (by simp [Port.nextAtDown]) (by decide) (apart s _ fun _ => rfl)
        (by rw [port_setPort, setPort_setPort]; exact answer _)]
    exact settle_atRest _ (end_rest _ rfl)
  · rw [settle_answers (r := .scrub) down (by simp [Port.nextAtDown, wait]) (by decide) others (answer _),
      wait, settle_rounds (p := p) (by rw [port_setPort, down]) (by simp [Port.nextAtDown, idle])
        (by rw [port_setPort, idle]) (apart v _ same), port_setPort, setPort_setPort]
    have timing (x : Port) : (v.setPort p x).busTiming p = s.busTiming p := by
      rw [← timing]
      cases p <;> rfl
    rw [timing, settle_atRest _ (end_rest _ rfl)]
    rfl

/-- Settles O41: each request that waited, answered or started. -/
theorem downPortAnswersTheWaiting : Obligations.DownPortAnswersTheWaiting := by
  intro p s r ws i running rest second port fails down failed
  have recovery : (s.port p).recovery = some r := congrArg Port.recovery port
  have state : (s.port p).state = .recovering := congrArg Port.state port
  have waiting : (s.port p).waiting = ws := congrArg Port.waiting port
  have flight : (s.port p).flight = none := congrArg Port.flight port
  let u : State := (s.setPort p { s.port p with state := .down, recovery := none }).logPort .portDown p
  have uport : u.port p = { s.port p with state := .down, recovery := none } := by
    rw [logPort_port, port_setPort]
  have udown : (u.port p).state = .down := by rw [uport]
  have others (q : PortId) (h : q ≠ p) : (u.port q).canAct = false := by
    rw [logPort_port, port_setPort_of_ne _ h]
    exact atRest_port rest q
  have cleared : u.setPort p { u.port p with waiting := [] } = down := by
    rw [uport]
    cases p <;> rfl
  have dport : down.port p = { s.port p with state := .down, recovery := none, waiting := [] } := by
    rw [logDrift_port, port_setPort]
  have runs (hr : r.origin = .timeout) : exec i s = .next (settled (u, [])) := by
    rw [exec_roundFails running fails, roundEnds_down recovery second state, State.roundsReported,
      if_neg (by rw [hr]; simp)]
  have alone {w : Request} {t : State} (only : ws = [w]) (notReset : w ≠ .portReset)
      (answer : down.answerDown p w = (t, [])) : settled (u, []) = t := by
    have left : (u.port p).waiting = [w] := by rw [uport, ← only, ← waiting]
    have same (q : PortId) : t.port q = down.port q := by
      have := answerDown_port (s := down) p q w
      rwa [answer] at this
    rw [settled, bound_eq, settle_answers (t := t) udown (by simp [Port.nextAtDown, left, notReset])
      notReset others (by rw [left, List.erase_cons_head, cleared, answer])]
    refine settle_atRest _ (atRest_of_port fun q => ?_)
    rw [same]
    by_cases e : q = p
    · subst e; exact canAct_of_waiting_nil (by rw [dport])
    · have := others q e
      rwa [logPort_port, port_setPort_of_ne _ e, ← port_setPort_of_ne s e] at this
  have scrub : down.scrub = s.scrub := by simp [down]
  have targets : down.targets = s.targets := by simp [down]
  have settings : down.settings = s.settings := by simp [down]
  have dcommand : down.command = s.command := by simp [down]
  have put (a : Fin 16) (x : Target) : down.setTarget a
      (some { x with failures := min (x.failures + 1) 15 }) = failed down a x := by
    rw [State.setTarget, targets]
  have found (a : Fin 16) : down.target a = s.target a := target_congr targets a
  refine ⟨fun k x reading current noRestore attached place below => ?_, ?_, ?_⟩
  · have answer (v : State) (hs : v.scrub = s.scrub) (ht : v.targets = s.targets)
        (hn : v.settings = s.settings) : v.answerDown p .scrub =
          ((v.setTarget k.aliasNo (some { x with failures := min (x.failures + 1) 15 })).paced, []) :=
      answerDown_scrub (hs ▸ reading) (hs ▸ current) (hs ▸ noRestore)
        ((target_congr ht _).trans attached) place (hn ▸ below)
    have one := answer down scrub targets settings
    rw [put] at one
    refine ⟨fun origin only => ?_, fun b command => ⟨fun origin both => ?_, fun origin kept only => ?_⟩⟩
    · rw [runs origin, alone only (by decide) one]
    · have both := settled_answer_and_rounds
        (v := (u.setTarget k.aliasNo (some { x with failures := min (x.failures + 1) 15 })).paced)
        udown (by rw [uport]) (by rw [uport, waiting]; exact both) others
        (fun w => by
          rw [answer (u.setPort p w) (by simp [u]) (by simp [u]) (by simp [u])]
          cases p <;> rfl)
        rfl fun q => port_congr rfl rfl q
      rw [runs origin, both]
      simp only [flight]
      cases p <;> rfl
    · rw [exec_roundFails running fails, roundEnds_down recovery second state]
      change Host.Outcome.next ((settled (u, [])).roundsReported r false) = _
      have command : (failed down k.aliasNo x).paced.command =
        some { staged := stagedOf .portReset b, progress := .portReset } := dcommand.trans command
      rw [alone only (by decide) one, roundsReported_eq (b := b) false fun _ _ => command,
        if_pos ⟨origin, kept⟩]
      rfl
  · intro k b x kind origin only command attached place below
    have answer : down.answerDown p .executor =
        ((failed down (slotOf b) x).directOutcome (stagedOf k b) .portDown, []) := by
      subst place
      have command := dcommand.trans command
      rw [answerDown_executor command nofun ((found _).trans attached) (settings ▸ below), put,
        State.executorOutcome, show (failed down (slotOf b) x).command = _ from command]
      rfl
    rw [runs origin, alone only (by decide) answer, directOutcome_fails kind rfl]
    rfl
  · intro b w origin only command port width
    have command := dcommand.trans command
    have answer : down.answerDown p .executor =
        (down.probeOutcome (stagedOf .attach b) .portDown, []) := by
      have probing : down.probing = true := by simp [State.probing, command]
      simp only [State.answerDown, command, probing, if_true, State.executorOutcome]
    rw [runs origin, alone only (by decide) answer, probeOutcome_fails rfl]
    simp only [attachCompletion, stagedOf_body, attachPort_eq port, attachWidth_eq width]
    rfl

end Machine
end Sys2Proof
end

section
/-! PROOF. The later transactions of an UPDATE, of a DEFINE with APPLY and of a VERIFY (R8, R11, R12, R79,
R80, R102, R121, R127, R129, R134, R135, R145, R146). -/

namespace Sys2Proof
namespace Machine

variable {s t : State} {p : PortId} {f : Flight}

/-! ### A follow-on request at the port that becomes IDLE -/

/-- A transaction whose outcome makes its requester ask for the next one at the same port (R94, R102). -/
theorem endTransaction_goesOn {o : BusOutcome} {r : Request}
    (delivered : s.outcomeOf p f o = (t, [(p, r)])) :
    s.endTransaction p f o = settled (t.portIdle p, [(p, r)]) := by
  simp only [State.endTransaction, delivered]

/-- An outcome that has reached its requester has left the ports and the settings alone. -/
theorem outcomeOf_frame {o : BusOutcome} {rs : List (PortId × Request)}
    (delivered : s.outcomeOf p f o = (t, rs)) :
    (∀ q, t.port q = s.port q) ∧ t.busTiming p = s.busTiming p := by
  have settings : t.settings = s.settings := by
    simpa [delivered] using outcomeOf_settings o (s := s) (p := p) (f := f)
  refine ⟨fun q => by simpa [delivered] using outcomeOf_port p f o q (s := s), ?_⟩
  cases p <;> simp only [State.busTiming, State.speedOf, settings]

@[simp] theorem portIdle_busTiming (q : PortId) : (s.portIdle p).busTiming q = s.busTiming q := by
  cases p <;> cases q <;> rfl

@[simp] theorem portIdle_target (a : Fin 16) : (s.portIdle p).target a = s.target a :=
  target_congr (portIdle_targets ..) a

@[simp] theorem portIdle_entry (k : Key) : (s.portIdle p).entry k = s.entry k :=
  entry_congr (portIdle_image ..) k

theorem working_portIdle (c : Staged) (g : Progress) :
    (s.working c g).portIdle p = (s.portIdle p).working c g := by cases p <;> rfl

/-! ### One entry in the place of another -/

/-- The part with another entry under a key. -/
def State.putEntry (s : State) (k : Key) (e : Entry) : State := { s with
  image := { s.image with entries := s.image.entries.map fun y => if y.key = k then e else y } }

theorem putEntry_entry {k : Key} {e e' : Entry} (found : s.entry k = some e) (key : e'.key = k) :
    (s.putEntry k e').entry k = some e' := find_swapped found key

/-- The value of a merged write with its base (R8). -/
theorem writeValue_some (e : Entry) (v : Byte) :
    e.writeValue (some v) = (e.expected &&& e.mask) ||| (v &&& ~~~e.mask) := by
  unfold Entry.writeValue
  split
  · rename_i full
    rw [full, show (0xFF : Byte) = BitVec.allOnes 8 from rfl]
    simp only [BitVec.and_allOnes, BitVec.not_allOnes, BitVec.and_zero, BitVec.or_zero]
  · rfl

/-! ### The later transactions of an apply -/

theorem applyOutcome_fails {c : Staged} {step : WriteStep} {base : Option Byte} {o : BusOutcome}
    (failed : o.isDone = false) :
    s.applyOutcome c step base o = (s.applyEndsFailed c (statusOf o), []) := by
  cases o with
  | done v => cases failed
  | _ => rfl

/-- The record of an apply whose verify read ended DONE (R145). -/
def verifiedCompletion (c : Staged) (e : Entry) (st : Status) (m : Byte) : Completion :=
  { completionOf c st with
    aliasNo := c.body.aliasNo, addr := addrOf c.body, value := m, expected := e.expected
    mask := e.mask, detail := entryDetail e }

/-- The end of an apply whose verify read ended DONE (R11, R127, R145). -/
theorem applyEndsVerified_eq {c : Staged} {e : Entry} (rise : KeysRise s.image.entries)
    (found : s.entry (keyOf c.body) = some e) (v : Byte) :
    let m := v &&& e.mask
    let seen : Entry := { e with lastObserved := some m }
    let clean : Entry := { seen with state := .clean, attempts := 0 }
    let drifted : Entry := { seen with state := .drifted, drifts := min (e.drifts + 1) 255 }
    let matched := m = e.expected &&& e.mask
    s.applyEndsVerified c v =
      if e.cls = .restoreOnly then (s.putEntry (keyOf c.body) seen).finish
        (verifiedCompletion c seen (if matched then .ok else .verifyMismatch) m)
      else if matched then
        (s.putEntry (keyOf c.body) clean).finish (verifiedCompletion c clean .ok m)
      else ((s.putEntry (keyOf c.body) drifted).logDrift .mismatch (some (aliasByte (slotOf c.body)))
        (some (addrOf c.body)) (some e.expected) (some m)).finish
          (verifiedCompletion c drifted .verifyMismatch m) := by
  intro m seen clean drifted matched
  obtain ⟨member, key⟩ := entry_some found
  have taken := (readResultsMoveTheEntry s e v rise member).2.2
  have ends (t : State) (e' : Entry) (h : s.takeApplyVerify e v = t) (he : t.entry (keyOf c.body) = some e')
      (same : e'.expected = e.expected ∧ e'.mask = e.mask) : s.applyEndsVerified c v =
        t.finish (verifiedCompletion c e' (if matched then .ok else .verifyMismatch) m) := by
    simp only [State.applyEndsVerified, found, h, he, matchesValue_iff]
    rfl
  have puts (e' : Entry) (h : e'.key = e.key) :
      (s.putEntry (keyOf c.body) e').entry (keyOf c.body) = some e' := putEntry_entry found (h.trans key)
  have putAt (e' : Entry) : s.putEntry e.key e' = s.putEntry (keyOf c.body) e' := by rw [key]
  have slot : slotOf c.body = e.key.aliasNo := by rw [key]; rfl
  have addr : addrOf c.body = e.key.addr := by rw [key]; rfl
  by_cases uncompared : e.cls = .restoreOnly
  · rw [if_pos uncompared] at taken ⊢
    rw [ends _ seen (taken.trans (putAt seen)) (puts seen rfl) ⟨rfl, rfl⟩]
  · rw [if_neg uncompared] at taken ⊢
    by_cases h : matched
    · rw [if_pos (matchesValue_iff.2 h)] at taken
      rw [if_pos h, ends _ clean (taken.trans (putAt clean)) (puts clean rfl) ⟨rfl, rfl⟩, if_pos h]
    · rw [if_neg (mt matchesValue_iff.1 h)] at taken
      rw [if_neg h, slot, addr, ← putAt, ends _ drifted taken ?_ ⟨rfl, rfl⟩, if_neg h]
      · rfl
      · change (s.putEntry e.key drifted).entry (keyOf c.body) = _
        rw [putAt]
        exact puts drifted rfl

/-- Settles O27: each step, by its outcome. -/
theorem applyRunsItsTransactions : Obligations.ApplyRunsItsTransactions := by
  intro p s f k b e x step base refused o v running rest rise busy kind own kept slot form command found
    attached port place m counted goesOn into ended unseen seen clean drifted matched
  obtain ⟨state, flight, empty⟩ := busy_fields busy
  have notProbe : f.form ≠ .probe := by rw [form]; cases step <;> nofun
  have key : e.key = keyOf b := (entry_some found).2
  have delivered {o : BusOutcome} {n : Nat} (count : failuresAfter x o = n) (real : o ≠ .withheld)
      (below : o.isDone = false → n < s.settings.failThreshold.toNat) :
      s.outcomeOf p f o = (counted n).applyOutcome (stagedOf k b) step base o := by
    rw [outcomeOf_executor kept own notProbe (slot ▸ attached) port place real (count ▸ below),
      State.executorOutcome, setTarget_command, command, count, slot]
    rfl
  have done : s.outcomeOf p f (.done v) = (counted 0).applyOutcome (stagedOf k b) step base (.done v) :=
    delivered rfl nofun nofun
  have held : (counted 0).target (slotOf b) = some { x with failures := 0 } :=
    target_setTarget s (slotOf b) _
  have quarantined : (counted 0).isQuarantined (slotOf b) = decide (x.state = .quarantined) := by
    rw [isQuarantined_eq held]
    rfl
  have next (st : WriteStep) (bs : Option Byte) (sound : x.state ≠ .quarantined)
      (goes : (counted 0).applyOutcome (stagedOf k b) step base (.done v) =
        ((counted 0).setCommand (stagedOf k b) (.apply st bs), (counted 0).placeFor (slotOf b) .executor)) :
      exec (.transactionEnd p none v) s = .next (goesOn st bs (writeStepForm st e bs x.width)) := by
    have asks : s.outcomeOf p f (.done v) =
        ((counted 0).working (stagedOf k b) (.apply st bs), [(p, .executor)]) := by
      rw [done, goes, placeFor_eq held]
      simp only [port]
      rfl
    have same (q : PortId) : (counted 0).port q = s.port q := port_congr rfl rfl q
    have idle := portIdle_atRest rest empty same
    have free := portIdle_portFree empty same
    rw [exec_transactionEnd (o := .done v) running flight rfl, endTransaction_goesOn asks,
      working_portIdle, settled_apply (s := (counted 0).portIdle p) (c := stagedOf k b)
        (x := { x with failures := 0 }) idle free
        (by rw [portIdle_entry]; exact found) (by rw [portIdle_target]; exact held) sound,
      portIdle_busTiming, ← working_portIdle]
    rfl
  have fails {refused : Option SentByte} {o : BusOutcome} {n : Nat} (count : failuresAfter x o = n)
      (below : o.isDone = false → n < s.settings.failThreshold.toNat)
      (outcome : endOutcome f.form refused v = some o) {st : Status}
      (failed : (counted n).applyOutcome (stagedOf k b) step base o =
        ((counted n).applyEndsFailed (stagedOf k b) st, [])) :
      exec (.transactionEnd p refused v) s = .next (ended (into n unseen) unseen st 0) := by
    have ends := (delivered count (endOutcome_counted outcome) below).trans failed
    rw [exec_transactionEnd running flight outcome, endTransaction_ends rest empty ends,
      applyEndsFailed_eq (s := counted n) (c := stagedOf k b) found fun y hy hk =>
        rise.unique hy (entry_some found).1 (hk.trans key.symm)]
    rfl
  refine ⟨fun sound read => ?_, fun sound write => ?_, fun found_quarantined early => ?_, fun verify => ?_,
    fun outcome failed below => ?_⟩
  · subst read
    have merged : writeStepForm .write e (some v) x.width =
        .write (addrOf b) x.width ((e.expected &&& e.mask) ||| (v &&& ~~~e.mask)) := by
      rw [writeStepForm, writeValue_some, key]
      rfl
    rw [next .write (some v) sound, merged]
    simp only [State.applyOutcome, stagedOf_body, quarantined, decide_eq_false sound]
    rfl
  · subst write
    have verify : writeStepForm .verifyRead e base x.width = .read (addrOf b) x.width := by
      rw [writeStepForm, key]
      rfl
    rw [next .verifyRead base sound, verify]
    simp only [State.applyOutcome, stagedOf_body, quarantined, decide_eq_false sound]
    rfl
  · have stops : (counted 0).isQuarantined (slotOf b) = true :=
      quarantined.trans (decide_eq_true found_quarantined)
    refine fails (o := .done v) (n := 0) rfl nofun rfl ?_
    cases step with
    | verifyRead => exact absurd rfl early
    | baseRead => exact if_pos stops
    | write => exact if_pos stops
  · subst verify
    have ends : s.outcomeOf p f (.done v) = ((counted 0).applyEndsVerified (stagedOf k b) v, []) := done
    rw [exec_transactionEnd (o := .done v) running flight rfl, endTransaction_ends rest empty ends,
      applyEndsVerified_eq (s := counted 0) (c := stagedOf k b) rise found]
    by_cases uncompared : e.cls = .restoreOnly
    · simp only [if_pos uncompared]
      rfl
    · simp only [if_neg uncompared]
      by_cases h : v &&& e.mask = e.expected &&& e.mask
      · simp only [if_pos h, matched, m]
        rfl
      · simp only [if_neg h, matched, m]
        rfl
  · refine fails ?_ (fun _ => below) outcome (applyOutcome_fails failed)
    simp [failuresAfter, failed]

/-! ### The walk of a VERIFY -/

theorem endOutcome_done {form : Form} {refused : Option SentByte} {v : Byte} {o : BusOutcome}
    (h : endOutcome form refused v = some o) (done : o.isDone = true) :
    refused = none ∧ o = .done v := by
  cases refused with
  | none => cases h; exact ⟨rfl, rfl⟩
  | some b =>
    simp only [endOutcome] at h
    split at h
    · cases b <;> cases h <;> cases done
    · cases h

theorem firstOf_eq (earlier : Option BusOutcome) (o : BusOutcome) :
    firstOf earlier o = some (earlier.getD o) := by cases earlier <;> rfl

theorem nextEntry_congr (image : t.image.entries = s.image.entries) (cursor : Option Key)
    (want : Entry → Bool) : t.nextEntry cursor want = s.nextEntry cursor want := by
  unfold State.nextEntry
  rw [image]

/-- A change of the entry under the cursor leaves the search above it alone. -/
theorem nextEntry_modifyEntry {k : Key} {g : Entry → Entry} (key : ∀ e, (g e).key = e.key)
    (want : Entry → Bool) :
    (s.modifyEntry k g).nextEntry (some k) want = s.nextEntry (some k) want := by
  have under (e : Entry) (h : e.key = k) : keyAbove (some k) e.key = false := by simp [keyAbove, h]
  have same : ((fun e : Entry => keyAbove (some k) e.key && want e) ∘ fun e => if e.key = k then g e else e)
      = fun e => keyAbove (some k) e.key && want e := funext fun e => by
    simp only [Function.comp_apply]
    split
    · rename_i h; rw [under (g e) ((key e).trans h), under e h]; rfl
    · rfl
  unfold State.nextEntry
  rw [modifyEntry_entries, List.find?_map, same]
  change (s.nextEntry (some k) want).map _ = s.nextEntry (some k) want
  cases found : s.nextEntry (some k) want with
  | none => rfl
  | some e =>
    have above := (nextEntry_some found).2.1
    rw [Option.map_some, if_neg fun h => by rw [under e h] at above; cases above]

@[simp] theorem logEntry_nextEntry (k : DriftKind) (e : Entry) (m : Byte) (cursor : Option Key)
    (want : Entry → Bool) : (s.logEntry k e m).nextEntry cursor want = s.nextEntry cursor want := rfl

theorem nextEntry_takeCompare (e : Entry) (v : Byte) (want : Entry → Bool) :
    (s.takeCompare e v).nextEntry (some e.key) want = s.nextEntry (some e.key) want := by
  unfold State.takeCompare
  dsimp only
  split
  · rfl
  · rfl
  all_goals split <;> simp [nextEntry_modifyEntry, Entry.drift]

/-- A read of a VERIFY that did not end DONE leaves the entry alone (R134). -/
theorem verifyOutcome_fails {c : Staged} {v : VerifyProgress} {o : BusOutcome} {k : Key} {e : Entry}
    (reading : v.reading = some k) (found : s.entry k = some e) (failed : o.isDone = false)
    (real : o ≠ .withheld) : s.verifyOutcome c v o = s.verifyGoOn c (v.after k o false) := by
  simp only [State.verifyOutcome, reading, found]
  cases o with
  | done v => cases failed
  | withheld => exact absurd rfl real
  | _ => rfl

/-- A read of a VERIFY that ended DONE is taken as a compare read (R134). -/
theorem verifyOutcome_done {c : Staged} {v : VerifyProgress} {w : Byte} {k : Key} {e : Entry}
    (reading : v.reading = some k) (found : s.entry k = some e) (live : e.atResetValue w = false) :
    s.verifyOutcome c v (.done w) =
      (s.takeCompare e w).verifyGoOn c (v.after k (.done w) (!e.matchesValue w)) := by
  simp only [State.verifyOutcome, reading, found, live]
  rfl

/-- Settles O28: the walk goes on from the state after the read. -/
theorem verifyWalksOn : Obligations.VerifyWalksOn := by
  intro p s f b e x v refused o w running rest rise busy own kept slot form named command reading found
    attached port place outcome live n below t0 t v' ended next
  obtain ⟨-, flight, empty⟩ := busy_fields busy
  have notProbe : f.form ≠ .probe := by rw [form]; nofun
  have count : failuresAfter x o = n := rfl
  have counted : s.outcomeOf p f o = t0.verifyOutcome (stagedOf .verify b) v o := by
    rw [outcomeOf_executor kept own notProbe (slot ▸ attached) port place (endOutcome_counted outcome)
      (count ▸ below), State.executorOutcome, setTarget_command, command, count, slot]
    rfl
  have goes : s.outcomeOf p f o = t.verifyGoOn (stagedOf .verify b) v' := by
    rw [counted]
    cases done : o.isDone with
    | true =>
      obtain ⟨-, rfl⟩ := endOutcome_done outcome done
      have progress : v.after e.key (.done w) (!e.matchesValue w) = v' := by
        by_cases h : w &&& e.mask = e.expected &&& e.mask
        · simp [VerifyProgress.after, v', matchesValue_iff.2 h, h, BusOutcome.isDone]
        · have : e.matchesValue w = false := by simpa using mt matchesValue_iff.1 h
          simp [VerifyProgress.after, v', this, h, BusOutcome.isDone]
      rw [verifyOutcome_done (s := t0) reading found (live rfl), progress]
      rfl
    | false =>
      have real := endOutcome_counted outcome
      have progress : v.after e.key o false = v' := by
        simp [VerifyProgress.after, v', done, real, firstOf_eq]
      rw [verifyOutcome_fails (s := t0) reading found done real, progress]
      simp only [t, done, Bool.false_eq_true, if_false]
  have same (q : PortId) : t.port q = s.port q := by
    have := outcomeOf_port p f o q (s := s)
    rwa [goes, verifyGoOn_port] at this
  have held : t.target (slotOf b) = some { x with failures := n } := by
    simp only [t]
    split
    · rw [target_congr (takeCompare_targets ..)]
      exact target_setTarget s (slotOf b) _
    · exact target_setTarget s (slotOf b) _
  have walk : t.nextEntry (some e.key) (fun y => y.key.aliasNo == slotOf b && y.compared) = next := by
    simp only [t]
    split
    · exact nextEntry_takeCompare (s := t0) e w _
    · rfl
  have ends {st : Status} (h : t.verifyGoOn (stagedOf .verify b) v' =
      (t.endVerify (stagedOf .verify b) v' st, [])) :
      exec (.transactionEnd p refused w) s = .next (ended st) := by
    rw [exec_transactionEnd running flight outcome, endTransaction_ends rest empty (goes.trans h)]
    rfl
  have sound : t.isQuarantined (slotOf b) = (x.state == .quarantined) := by
    rw [isQuarantined_eq held]
  have claimed : t.isRestoredBy (slotOf b) .scrub =
      (x.state == .restoring && x.restorer == some .scrub) := by
    rw [isRestoredBy_eq held]
  refine ⟨fun quarantined => ends ?_, fun restoring restorer => ends ?_, fun online => ?_⟩
  · rw [quarantined] at sound
    exact if_pos sound
  · rw [restoring] at sound
    rw [restoring, restorer] at claimed
    exact (if_neg (by rw [stagedOf_body, sound]; decide)).trans (if_pos claimed)
  · rw [online] at sound claimed
    refine ⟨fun e2 found => ?_, fun missing => ends ?_⟩
    · have asks : s.outcomeOf p f o = (t.working (stagedOf .verify b)
          (.verify { v' with reading := some e2.key }), [(p, .executor)]) := by
        rw [goes, verifyGoOn_reads (c := stagedOf .verify b) held sound claimed (walk.trans found)]
        simp only [port]
      rw [exec_transactionEnd running flight outcome, endTransaction_goesOn asks, working_portIdle,
        settled_verifyRead (s := t.portIdle p) (c := stagedOf .verify b)
          (x := { x with failures := n }) (portIdle_atRest rest empty same)
          (portIdle_portFree empty same) (by rw [portIdle_target]; exact held) ?_ rfl,
        portIdle_busTiming, ← working_portIdle]
      · rw [show t.busTiming p = s.busTiming p from (outcomeOf_frame asks).2]
        rfl
      · rw [stagedOf_body, isQuarantined_eq (by rw [portIdle_target]; exact held)]
        rw [online]
        rfl
    · exact verifyGoOn_ends (c := stagedOf .verify b) sound claimed (walk.trans missing)

end Machine
end Sys2Proof
end

section
/-! PROOF. The scrub read's result and the transactions of a repair (R8, R12, R14 to R16, R31, R37 to R41,
R45, R48, R51 to R55, R80, R94, R102). -/

namespace Sys2Proof
namespace Machine

variable {s t : State} {p : PortId} {f : Flight}

/-! ### The scrub read -/

/-- A scrub read that ended DONE and is taken: the Image Table first, then the engine's next step
(R40, R41). -/
theorem scrubOutcome_read {e : Entry} {x : Target} {v : Byte} (reading : s.scrub.state = .readWait)
    (current : s.scrub.current = some e.key) (fresh : s.scrub.stale = false)
    (attached : s.target e.key.aliasNo = some x) (online : x.state = .online)
    (found : s.entry e.key = some e) (live : e.atResetValue v = false) :
    s.scrubOutcome (.done v) = (s.takeCompare e v).afterCompare e.key v := by
  have unclaimed : s.isRestoredBy e.key.aliasNo .executor = false := by
    rw [isRestoredBy_eq attached, online]; rfl
  simp only [State.scrubOutcome, reading, current, State.scrubReadOutcome, fresh, unclaimed, found, live]
  rfl

/-- A scrub read that ended DONE with the stale mark set is discarded (R40, R43). -/
theorem scrubOutcome_stale {k : Key} {v : Byte} (reading : s.scrub.state = .readWait)
    (current : s.scrub.current = some k) (stale : s.scrub.stale = true) :
    s.scrubOutcome (.done v) = (s.paced, []) := by
  simp only [State.scrubOutcome, reading, current, State.scrubReadOutcome, stale]
  rfl

@[simp] theorem logEntry_entry (k : DriftKind) (e : Entry) (m : Byte) (j : Key) :
    (s.logEntry k e m).entry j = s.entry j := rfl

/-- The entry after a compare read: its class and halt stay, and it is DRIFTED if it did not match and
was UNSEEN, CLEAN or DRIFTED (R12). -/
theorem takeCompare_entry {e : Entry} (found : s.entry e.key = some e) (v : Byte) :
    ∃ y, (s.takeCompare e v).entry e.key = some y ∧ y.key = e.key ∧ y.cls = e.cls ∧ y.halt = e.halt ∧
      (y.state = .drifted ↔ v &&& e.mask ≠ e.expected &&& e.mask ∧
        (e.state = .unseen ∨ e.state = .clean ∨ e.state = .drifted)) := by
  have changed (g : Entry → Entry) (key : ∀ y, (g y).key = y.key) :
      (s.modifyEntry e.key g).entry e.key = some (g e) := by
    rw [modifyEntry_entry key, found]
    simp
  by_cases h : v &&& e.mask = e.expected &&& e.mask
  · have m : e.matchesValue v = true := matchesValue_iff.2 h
    cases state : e.state with
    | pending | repairing =>
      simp only [State.takeCompare, state]
      exact ⟨e, found, rfl, rfl, rfl, by simp [h, state]⟩
    | unseen | clean =>
      simp only [State.takeCompare, state, m, if_true]
      exact ⟨_, changed _ fun _ => rfl, rfl, rfl, rfl, by simp [h]⟩
    | drifted | failed =>
      simp only [State.takeCompare, state, m, if_true, logEntry_entry]
      exact ⟨_, changed _ fun _ => rfl, rfl, rfl, rfl, by simp [h]⟩
  · have m : e.matchesValue v = false := by simpa using mt matchesValue_iff.1 h
    cases state : e.state with
    | pending | repairing =>
      simp only [State.takeCompare, state]
      exact ⟨e, found, rfl, rfl, rfl, by simp [state]⟩
    | unseen | clean =>
      simp only [State.takeCompare, state, m, Bool.false_eq_true, if_false, logEntry_entry]
      exact ⟨_, changed _ fun _ => rfl, rfl, rfl, rfl, by simp [Entry.drift, h]⟩
    | drifted | failed =>
      simp only [State.takeCompare, state, m, Bool.false_eq_true, if_false]
      exact ⟨_, changed _ fun _ => rfl, rfl, rfl, rfl, by simp [state, h]⟩

/-- Settles O37: the stale result, the hold, and the engine that paces on. -/
theorem scrubReadIsApplied : Obligations.ScrubReadIsApplied := by
  intro p s f e x v running rest rise busy own form kept slot reading current found live attached online
    port place t drifted
  obtain ⟨-, flight, empty⟩ := busy_fields busy
  have reaches : s.outcomeOf p f (.done v) = t.scrubOutcome (.done v) := by
    rw [outcomeOf_scrub (o := .done v) kept own (slot ▸ attached) port place nofun nofun, slot]
    rfl
  have held : t.target e.key.aliasNo = some { x with failures := 0 } := target_setTarget s _ _
  have ends {u : State} (h : t.scrubOutcome (.done v) = (u, [])) :
      exec (.transactionEnd p none v) s = .next (u.portIdle p) := by
    rw [exec_transactionEnd (o := .done v) running flight rfl,
      endTransaction_ends rest empty (reaches.trans h)]
  have taken (fresh : s.scrub.stale = false) :
      t.scrubOutcome (.done v) = (t.takeCompare e v).afterCompare e.key v :=
    scrubOutcome_read (s := t) reading current fresh held online found live
  obtain ⟨y, after, key, cls, halt, state⟩ := takeCompare_entry (s := t) found v
  refine ⟨fun stale => ends (scrubOutcome_stale (s := t) reading current stale),
    fun fresh go drift halts => ?_, fun fresh calm => ends ((taken fresh).trans ?_)⟩
  · have stops : (t.takeCompare e v).scrub.stopRequested = false := by
      rw [takeCompare_scrub]; exact go
    have holds : (t.takeCompare e v).afterCompare e.key v = ((t.takeCompare e v).hold, []) := by
      simp only [State.afterCompare, after, stops, state.2 drift, halt, halts]
      rfl
    rw [ends ((taken fresh).trans holds), State.hold, takeCompare_scrub, takeCompare_sections]
  · have stops : (t.takeCompare e v).scrub.stopRequested = s.scrub.stopRequested := by
      rw [takeCompare_scrub]
    simp only [State.afterCompare, after, stops, cls, halt]
    by_cases stop : s.scrub.stopRequested = true
    · rw [if_pos stop]
      rfl
    · have still : ¬(y.state = .drifted ∧ e.halt = true) ∧
          ¬(e.cls = .hold ∧ y.state = .drifted ∧ (t.takeCompare e v).isOnline e.key.aliasNo = true) := by
        rcases calm with h | h | ⟨noHalt, other⟩
        · exact absurd h stop
        · exact ⟨fun c => h (state.1 c.1), fun c => h (state.1 c.2.1)⟩
        · exact ⟨fun c => by simp [noHalt] at c, fun c => other c.1⟩
      rw [if_neg stop, if_neg still.1, if_neg still.2]
      rfl

/-! ### The repair begun on a read result -/

/-- A change of an entry that was put in the place of another. -/
theorem modifyEntry_putEntry {k : Key} {e : Entry} (key : e.key = k) (g : Entry → Entry) :
    (s.putEntry k e).modifyEntry k g = s.putEntry k (g e) := by
  have entries : ((s.image.entries.map fun y => if y.key = k then e else y).map
      fun y => if y.key = k then g y else y) = s.image.entries.map fun y => if y.key = k then g e else y := by
    rw [List.map_map]
    refine List.map_congr_left fun y _ => ?_
    by_cases h : y.key = k <;> simp [h, key]
  unfold State.modifyEntry State.putEntry
  rw [entries]

/-- A repair begun on a value that was read (R51). -/
theorem beginRepair_some {e : Entry} {x : Target} (attached : s.target e.key.aliasNo = some x)
    (v : Byte) : s.beginRepair e (some v) =
      ((s.modifyEntry e.key fun y => { y with state := .repairing }).setRepair
        { base := if e.mask = 0xFF then none else some v, step := .write }, [(x.port, .scrub)]) := by
  have step : (if e.mask ≠ 0xFF ∧ repairBase e (some v) = none then WriteStep.baseRead else .write) =
      .write := by
    by_cases full : e.mask = 0xFF <;> simp [full, repairBase]
  unfold State.beginRepair
  dsimp only
  rw [step]
  exact congrArg (Prod.mk _) (placeFor_eq attached .scrub)

/-- The merged value of a repair write (R8, R51). -/
theorem writeStepForm_repair (e : Entry) (v : Byte) (w : Width) :
    writeStepForm .write e (if e.mask = 0xFF then none else some v) w =
      .write e.key.addr w ((e.expected &&& e.mask) ||| (v &&& ~~~e.mask)) := by
  rw [writeStepForm, ← writeValue_some]
  by_cases full : e.mask = 0xFF
  · simp only [full, if_true, Entry.writeValue]
  · simp only [if_neg full]

/-- A repair that goes on at the port that becomes IDLE (R52, R94, R102). -/
theorem endTransaction_repairs {o : BusOutcome} {e : Entry} {x : Target} {r : Repair}
    (rest : s.atRest = true) (empty : (s.port p).waiting = [])
    (asks : s.outcomeOf p f o = (t, [(p, .scrub)]))
    (repairing : t.scrub.state = .repairWait ∨ t.scrub.state = .verifyWait)
    (current : t.scrub.current = some e.key) (under : t.scrub.repair = some r)
    (fresh : t.scrub.stale = false) (found : t.entry e.key = some e)
    (attached : t.target e.key.aliasNo = some x) (online : x.state = .online) :
    s.endTransaction p f o = (t.portIdle p).inFlight p (formedFlight .scrub e.key.aliasNo x.busAddr
      (s.busTiming p) (writeStepForm r.step e r.base x.width)) := by
  obtain ⟨same, timing⟩ := outcomeOf_frame asks
  rw [endTransaction_goesOn asks, settled_repair (portIdle_atRest rest empty same)
    (portIdle_portFree empty same) (by rw [portIdle_scrub]; exact repairing)
    (by rw [portIdle_scrub]; exact current) (by rw [portIdle_scrub]; exact under)
    (by rw [portIdle_scrub]; exact fresh) (by rw [portIdle_entry]; exact found)
    (by rw [portIdle_target]; exact attached) online, portIdle_busTiming, timing]

/-- Settles O38: the compare read, then the repair write. -/
theorem scrubReadBeginsTheRepair : Obligations.ScrubReadBeginsTheRepair := by
  intro p s f e x v running rest rise busy own form kept slot reading current fresh go found hold noHalt
    clean attached online port place differs e' t
  obtain ⟨-, flight, empty⟩ := busy_fields busy
  let m := v &&& e.mask
  let counted : State := s.setTarget e.key.aliasNo (some { x with failures := 0 })
  let d : Entry := { e with
    state := .drifted, attempts := 0, lastObserved := some m, drifts := min (e.drifts + 1) 255 }
  let read : State := (counted.putEntry e.key d).logDrift .mismatch (some (aliasByte e.key.aliasNo))
    (some e.key.addr) (some e.expected) (some m)
  let u : State := (counted.putEntry e.key e').logDrift .mismatch (some (aliasByte e.key.aliasNo))
    (some e.key.addr) (some e.expected) (some m)
  let r : Repair := { base := if e.mask = 0xFF then none else some v, step := .write }
  have member := (entry_some found).1
  have mismatch : e.matchesValue v = false := by simpa using mt matchesValue_iff.1 differs
  have held : counted.target e.key.aliasNo = some { x with failures := 0 } := target_setTarget s _ _
  have taken : counted.takeCompare e v = read := by
    rw [(readResultsMoveTheEntry counted e v rise member).1]
    simp only [clean, mismatch]
    rfl
  have after : read.entry e.key = some d := putEntry_entry (s := counted) found rfl
  have live : e.atResetValue v = false := by
    unfold Entry.atResetValue
    rw [hold]
  have asks : s.outcomeOf p f (.done v) = (u.setRepair r, [(p, .scrub)]) := by
    have onlineRead : read.isOnline e.key.aliasNo = true := by
      rw [isOnline_eq (s := read) held, online]
      rfl
    rw [outcomeOf_scrub (o := .done v) kept own (slot ▸ attached) port place nofun nofun, slot]
    change counted.scrubOutcome (.done v) = _
    rw [scrubOutcome_read (s := counted) reading current fresh held online found live, taken]
    have next : read.afterCompare e.key v = read.beginRepair d (some v) := by
      have stops : read.scrub.stopRequested = false := go
      simp only [State.afterCompare, after, stops, onlineRead]
      rw [if_neg (by decide), if_neg (fun h => by rw [show d.halt = false from noHalt] at h; cases h.2),
        if_pos ⟨hold, rfl, trivial⟩]
    have again : read.modifyEntry d.key (fun y => { y with state := .repairing }) = u :=
      congrArg (fun w : State => w.logDrift .mismatch (some (aliasByte e.key.aliasNo))
        (some e.key.addr) (some e.expected) (some m)) (modifyEntry_putEntry (s := counted) (e := d) rfl _)
    rw [next, beginRepair_some (s := read) (e := d) held, again]
    simp only [port]
    rfl
  rw [exec_transactionEnd (o := .done v) running flight rfl,
    endTransaction_repairs (e := e') (r := r) rest empty asks (.inl rfl) current rfl fresh
      (putEntry_entry (s := counted) found rfl) held online, writeStepForm_repair]
  rfl

/-! ### The transactions of a repair -/

theorem scrubOutcome_repair {k : Key} {r : Repair} (o : BusOutcome)
    (state : s.scrub.state = if r.step = .verifyRead then .verifyWait else .repairWait)
    (current : s.scrub.current = some k) (under : s.scrub.repair = some r) :
    s.scrubOutcome o = s.repairOutcome k r o := by
  by_cases verify : r.step = .verifyRead
  · rw [if_pos verify] at state
    simp only [State.scrubOutcome, state, current, under]
  · rw [if_neg verify] at state
    simp only [State.scrubOutcome, state, current, under]

theorem repairOutcome_fails {k : Key} {r : Repair} {o : BusOutcome} (failed : o.isDone = false) :
    s.repairOutcome k r o = (s.abandonRepair, []) := by
  unfold State.repairOutcome State.repairVerifyOutcome State.repairStepOutcome
  cases o with
  | done v => cases failed
  | _ => cases r.step <;> rfl

/-- An abandoned repair: the entry is DRIFTED again, and the engine paces on (R16, R55). -/
theorem abandonRepair_eq {e : Entry} (rise : KeysRise s.image.entries)
    (current : s.scrub.current = some e.key) (found : s.entry e.key = some e)
    (repairing : e.state = .repairing) :
    s.abandonRepair = (s.putEntry e.key { e with state := .drifted }).paced := by
  have back := modifyEntry_eq rise (entry_some found).1
    fun y => if y.state = .repairing then { y with state := .drifted } else y
  rw [repairing, if_pos rfl] at back
  simp only [State.abandonRepair, current]
  exact congrArg State.paced back

/-- The entry that stands under a key, put there again. -/
theorem putEntry_self (rise : KeysRise s.image.entries) {e : Entry} (found : s.entry e.key = some e) :
    s.putEntry e.key e = s := by
  have entries : (s.image.entries.map fun y => if y.key = e.key then e else y) = s.image.entries := by
    refine (List.map_congr_left fun y hy => ?_).trans (List.map_id _)
    split
    · rename_i h; exact (rise.unique hy (entry_some found).1 h).symm
    · rfl
  unfold State.putEntry
  rw [entries]

/-- A request of the Scrub Engine that is withdrawn at the grant of a free port (R101). -/
theorem settled_scrub_withdrawn {u : State} (rest : s.atRest = true) (free : s.portFree p = true)
    (withdrawn : s.formScrub p = .withdrawn (u, [])) (done : u.atRest = true) :
    settled (s, [(p, .scrub)]) = u := by
  refine settled_free rest free u ?_ done
  have empty := portFree_waiting free
  have back : (s.enqueue p .scrub).setPort p { (s.enqueue p .scrub).port p with
      waiting := ((s.enqueue p .scrub).port p).waiting.erase .scrub } = s := by
    simpa [State.enqueue, empty] using setPort_waiting_nil empty
  have chosen : ((s.enqueue p .scrub).port p).choose = some .scrub := by
    simp [State.enqueue, empty, Port.choose]
  simp only [State.grant, chosen, State.grantScrub, back, withdrawn]

/-- The end of a repair whose stale mark is found at the grant of its write (R37, R52). -/
theorem settled_repair_stale {k : Key} {r : Repair} (rest : s.atRest = true) (free : s.portFree p = true)
    (repairing : s.scrub.state = .repairWait) (current : s.scrub.current = some k)
    (under : s.scrub.repair = some r) (stale : s.scrub.stale = true) :
    settled (s, [(p, .scrub)]) = s.abandonRepair := by
  refine settled_scrub_withdrawn rest free ?_ ((atRest_of_port fun q => ?_))
  · simp only [State.formScrub, repairing, current, under, State.formRepair, stale]
    rfl
  · rw [abandonRepair_port]
    exact atRest_port rest q

/-- After a verify read that has taken the entry out of REPAIRING the repair is over (R54). -/
theorem afterRepairVerify_ends {k : Key} {y : Entry} (found : s.entry k = some y)
    (state : y.state ≠ .repairing) (v : Byte) : s.afterRepairVerify k v = (s.paced, []) := by
  simp only [State.afterRepairVerify, found, if_neg state]
  rfl

/-- Settles O39: each step, by its outcome and the stale mark. -/
theorem repairRunsItsTransactions : Obligations.RepairRunsItsTransactions := by
  intro p s f e x rep refused o v running rest rise busy own kept slot form current state under found
    repairing attached online port place m n tries into goesOn merged record back tried
  obtain ⟨-, flight, empty⟩ := busy_fields busy
  have member := (entry_some found).1
  let counted (n : Nat) : State := s.setTarget e.key.aliasNo (some { x with failures := n })
  have held (n : Nat) : (counted n).target e.key.aliasNo = some { x with failures := n } :=
    target_setTarget s _ _
  have unbarred (n : Nat) : (counted n).repairBarred e.key.aliasNo = false := by
    rw [State.repairBarred, isQuarantined_eq (held n), isRestoredBy_eq (held n), held n, online]
    rfl
  have reaches {o : BusOutcome} (real : o ≠ .withheld)
      (below : o.isDone = false → failuresAfter x o < s.settings.failThreshold.toNat) :
      s.outcomeOf p f o = (counted (failuresAfter x o)).repairOutcome e.key rep o := by
    rw [outcomeOf_scrub kept own (slot ▸ attached) port place real below, slot]
    exact scrubOutcome_repair (s := counted (failuresAfter x o)) o state current under
  have done : s.outcomeOf p f (.done v) = (counted 0).repairOutcome e.key rep (.done v) :=
    reaches (o := .done v) nofun nofun
  have abandons (n : Nat) : (counted n).abandonRepair = (into n back).paced :=
    abandonRepair_eq (s := counted n) rise current found repairing
  have same : into 0 e = counted 0 := putEntry_self (s := counted 0) rise found
  have run : exec (.transactionEnd p none v) s = .next (s.endTransaction p f (.done v)) :=
    exec_transactionEnd running flight rfl
  have ends {u : State} (h : (counted 0).repairOutcome e.key rep (.done v) = (u, [])) :
      exec (.transactionEnd p none v) s = .next (u.portIdle p) := by
    rw [run, endTransaction_ends rest empty (done.trans h)]
  refine ⟨fun read fresh => ?_, fun write fresh => ?_, fun stale => ?_, fun verify fresh => ?_,
    fun outcome failed below => ?_⟩
  · have asks : s.outcomeOf p f (.done v) =
        ((counted 0).setRepair { base := some v, step := .write }, [(p, .scrub)]) :=
      done.trans (by
        simp only [State.repairOutcome, read, State.repairStepOutcome, unbarred]
        exact congrArg (Prod.mk _) (port ▸ placeFor_eq (held 0) .scrub))
    rw [run, endTransaction_repairs rest empty asks (.inl rfl) current rfl fresh found (held 0) online,
      same, writeStepForm, writeValue_some]
    rfl
  · have asks : s.outcomeOf p f (.done v) =
        ((counted 0).setRepair { rep with step := .verifyRead }, [(p, .scrub)]) :=
      done.trans (by
        simp only [State.repairOutcome, write, State.repairStepOutcome, unbarred,
          show (counted 0).scrub.stale = false from fresh]
        exact congrArg (Prod.mk _) (port ▸ placeFor_eq (held 0) .scrub))
    rw [run, endTransaction_repairs rest empty asks (.inr rfl) current rfl fresh found (held 0) online,
      same, writeStepForm]
    rfl
  · cases step : rep.step with
    | baseRead =>
      have asks : s.outcomeOf p f (.done v) =
          ((counted 0).setRepair { base := some v, step := .write }, [(p, .scrub)]) :=
        done.trans (by
          simp only [State.repairOutcome, step, State.repairStepOutcome, unbarred]
          exact congrArg (Prod.mk _) (port ▸ placeFor_eq (held 0) .scrub))
      let u : State := (counted 0).setRepair { base := some v, step := .write }
      have same (q : PortId) : u.port q = s.port q := (outcomeOf_frame asks).1 q
      rw [run, endTransaction_goesOn asks, settled_repair_stale (portIdle_atRest rest empty same)
        (portIdle_portFree empty same) (by rw [portIdle_scrub]; rfl)
        (by rw [portIdle_scrub]; exact current) (by rw [portIdle_scrub]; rfl)
        (by rw [portIdle_scrub]; exact stale), abandonRepair_eq (e := e)
        (by rw [portIdle_image]; exact rise) (by rw [portIdle_scrub]; exact current)
        (by rw [portIdle_entry]; exact found) repairing]
      cases p <;> rfl
    | write =>
      refine (ends (u := (counted 0).abandonRepair) ?_).trans (by rw [abandons])
      simp only [State.repairOutcome, step, State.repairStepOutcome,
        show (counted 0).scrub.stale = true from stale]
      rfl
    | verifyRead =>
      refine (ends (u := (counted 0).abandonRepair) ?_).trans (by rw [abandons])
      simp only [State.repairOutcome, step, State.repairVerifyOutcome,
        show (counted 0).scrub.stale = true from stale]
      rfl
  · let clean : Entry := { e with state := .clean, attempts := 0, lastObserved := some m }
    let spent : Entry := { tried with state := .failed }
    have taken : (counted 0).takeRepairVerify e v =
        if e.matchesValue v = true then record (into 0 clean) .repaired
        else if s.settings.repairLimit.toNat ≤ tries then record (into 0 spent) .repairFailed
        else into 0 tried :=
      (readResultsMoveTheEntry (counted 0) e v rise member).2.1 repairing
    have verified {u : State} (h : (counted 0).takeRepairVerify e v = u) :
        (counted 0).repairOutcome e.key rep (.done v) = u.afterRepairVerify e.key v := by
      rw [← h]
      simp only [State.repairOutcome, verify, State.repairVerifyOutcome,
        show (counted 0).scrub.stale = false from fresh, isRestoredBy_eq (held 0), online,
        show (counted 0).entry e.key = some e from found]
      rfl
    have stands (y : Entry) (key : y.key = e.key) : (into 0 y).entry e.key = some y :=
      putEntry_entry (s := counted 0) found key
    refine ⟨fun matched => ?_, fun differs => ⟨fun limit => ?_, fun more => ?_⟩⟩
    · rw [if_pos (matchesValue_iff.2 matched)] at taken
      exact ends ((verified taken).trans (afterRepairVerify_ends
        (s := record (into 0 clean) .repaired) (stands clean rfl) nofun v))
    · rw [if_neg (mt matchesValue_iff.1 differs), if_pos limit] at taken
      exact ends ((verified taken).trans (afterRepairVerify_ends
        (s := record (into 0 spent) .repairFailed) (stands spent rfl) nofun v))
    · rw [if_neg (mt matchesValue_iff.1 differs), if_neg (Nat.not_le.2 more)] at taken
      have current : (into 0 tried).scrub.current = some e.key := current
      have onlineStill : (into 0 tried).isOnline e.key.aliasNo = true := by
        rw [isOnline_eq (s := into 0 tried) (held 0), online]
        rfl
      refine ⟨fun stop => ends ((verified taken).trans ?_), fun go => ?_⟩
      · have stops : (into 0 tried).scrub.stopRequested = true := stop
        have returned : (into 0 tried).abandonRepair = (into 0 { tried with state := .drifted }).paced := by
          have back := modifyEntry_putEntry (s := counted 0) (k := e.key) (e := tried) rfl
            fun y => if y.state = .repairing then { y with state := .drifted } else y
          rw [if_pos (show tried.state = .repairing from repairing)] at back
          simp only [State.abandonRepair, current]
          exact congrArg State.paced back
        simp only [State.afterRepairVerify, stands tried rfl, stops, returned]
        rw [if_pos repairing]
        rfl
      · have stops : (into 0 tried).scrub.stopRequested = false := go
        let again : Repair := { base := if e.mask = 0xFF then none else some v, step := .write }
        have asks : s.outcomeOf p f (.done v) = ((into 0 tried).setRepair again, [(p, .scrub)]) := by
          rw [done, verified taken]
          simp only [State.afterRepairVerify, stands tried rfl, stops, onlineStill]
          rw [if_pos repairing]
          exact congrArg (Prod.mk _) (port ▸ placeFor_eq (s := into 0 tried) (held 0) .scrub)
        rw [run, endTransaction_repairs (e := tried) (r := again) rest empty asks (.inl rfl) current rfl
          fresh (stands tried rfl) (held 0) online, writeStepForm_repair]
        rfl
  · have count : failuresAfter x o = n := by simp [failuresAfter, failed, n]
    have h := (reaches (endOutcome_counted outcome) fun _ => count ▸ below).trans
      (repairOutcome_fails failed)
    rw [exec_transactionEnd running flight outcome, endTransaction_ends rest empty h, count, abandons]

end Machine
end Sys2Proof
end

section
/-! PROOF. The steps of a restore on the bus, and the claim of a marker that reads at its reset value (R17,
R40, R42, R43, R56 to R66, R76, R78, R80, R102, R121, R133, R135). -/

namespace Sys2Proof
namespace Machine

variable {s t : State} {p : PortId} {f : Flight}

/-! ### A restore that goes on -/

theorem State.Restores.portIdle {eng : Engine} {g : RestoreProgress} (h : s.Restores eng g) :
    (s.portIdle p).Restores eng g :=
  h.congr ⟨by rw [portIdle_scrub], by rw [portIdle_scrub]⟩ (portIdle_command ..)

/-- A restore whose next transaction goes onto the port that becomes IDLE (R60, R94, R102). -/
theorem endTransaction_restores {eng : Engine} {o : BusOutcome} {g g0 : RestoreProgress} {e : Entry}
    {x : Target} (rest : s.atRest = true) (empty : (s.port p).waiting = [])
    (asks : s.outcomeOf p f o = (t.setRestore eng g, [(p, requestOf eng)])) (own : t.Restores eng g0)
    (step : g.step = some e.key) (found : t.entry e.key = some e)
    (attached : t.target g.aliasNo = some x) (sound : x.state ≠ .quarantined)
    (based : g.stage = .write → e.mask ≠ 0xFF → g.base ≠ none) :
    s.endTransaction p f o = ((t.setRestore eng g).portIdle p).inFlight p (formedFlight eng g.aliasNo
      x.busAddr (s.busTiming p) (writeStepForm (stageStep g.stage) e g.base x.width)) := by
  obtain ⟨same, timing⟩ := outcomeOf_frame asks
  rw [endTransaction_goesOn asks, settled_restore (portIdle_atRest rest empty same)
    (portIdle_portFree empty same) (own.setRestore g).portIdle step
    (by rw [portIdle_entry, entry_congr (setRestore_image ..)]; exact found)
    (by rw [portIdle_target, target_congr (setRestore_targets ..)]; exact attached) sound based,
    portIdle_busTiming, timing]

/-- A step of a restore that begins at the port that becomes IDLE (R60, R94, R102). -/
theorem endTransaction_beginsStep {eng : Engine} {o : BusOutcome} {g g0 : RestoreProgress} {e : Entry}
    {x : Target} {phase : RestorePhase} (rest : s.atRest = true) (empty : (s.port p).waiting = [])
    (asks : s.outcomeOf p f o = (t.setRestore eng (restoreStep g phase e), [(p, requestOf eng)]))
    (own : t.Restores eng g0) (found : t.entry e.key = some e)
    (attached : t.target g.aliasNo = some x) (sound : x.state ≠ .quarantined) :
    s.endTransaction p f o = ((t.setRestore eng (restoreStep g phase e)).portIdle p).inFlight p
      (formedFlight eng g.aliasNo x.busAddr (s.busTiming p) (restoreForm e x.width)) := by
  obtain ⟨same, timing⟩ := outcomeOf_frame asks
  rw [endTransaction_goesOn asks, settled_restoreBegins (portIdle_atRest rest empty same)
    (portIdle_portFree empty same) (own.setRestore _).portIdle
    (by rw [portIdle_entry, entry_congr (setRestore_image ..)]; exact found)
    (by rw [portIdle_target, target_congr (setRestore_targets ..)]; exact attached) sound,
    portIdle_busTiming, timing]

/-- The outcome of a restore's transaction is reported, then reaches the restoring engine (R60, R79). -/
theorem outcomeOf_restore {eng : Engine} {g : RestoreProgress} {o : BusOutcome}
    (kept : f.discarded = false) (own : f.requester = eng) (notProbe : f.form ≠ .probe)
    (restores : s.Restores eng g) : s.outcomeOf p f o =
      (s.report f.aliasNo p f.busAddr o).restoreOutcome eng g o := by
  unfold State.outcomeOf State.deliver
  rw [if_neg (by rw [kept]; decide), own]
  cases eng with
  | scrub =>
    obtain ⟨state, restore⟩ := restores
    simp only [State.scrubOutcome, report_scrub, state, restore]
  | executor =>
    obtain ⟨c, turned, command⟩ := restores
    simp only [if_neg notProbe, State.executorOutcome, report_command, command]

/-! ### The end of a step -/

/-- The entry after a write of a restore (R17). -/
def Entry.rewritten (e : Entry) : Entry :=
  { e with state := if e.state = .pending then .pending else .unseen }

/-- The part after a step of a restore has ended: the entry UNSEEN unless PENDING, and the stale mark set
for the executor's write of the Scrub Engine's current entry (R17, R43, R60). -/
def State.stepEnded (s : State) (eng : Engine) (e : Entry) : State := { s with
  image := { s.image with
    entries := s.image.entries.map fun y => if y.key = e.key then e.rewritten else y }
  scrub := if eng = .executor ∧ s.scrub.current = some e.key then { s.scrub with stale := true }
    else s.scrub }

theorem endRestoreStep_eq {eng : Engine} {g : RestoreProgress} {e : Entry}
    (rise : KeysRise s.image.entries) (found : s.entry e.key = some e) (o : BusOutcome) :
    s.endRestoreStep eng g e.key o = (s.stepEnded eng e).restoreGoOn eng (g.afterStep eng e.key o) := by
  have wrote : s.restoreWrote e.key = s.putEntry e.key e.rewritten := by
    have := modifyEntry_eq rise (entry_some found).1
      fun y => if y.state = .pending then y else { y with state := .unseen }
    have same : (if e.state = .pending then e else { e with state := .unseen }) = e.rewritten := by
      unfold Entry.rewritten
      by_cases h : e.state = .pending
      · rw [if_pos h, if_pos h, ← h]
      · rw [if_neg h, if_neg h]
    rw [same] at this
    exact this
  have marked : (match eng with
      | .executor => (s.restoreWrote e.key).markStale e.key
      | .scrub => s.restoreWrote e.key) = s.stepEnded eng e := by
    cases eng with
    | scrub => rw [wrote, State.stepEnded, if_neg (by simp)]; rfl
    | executor => rw [wrote, markStale_eq, State.stepEnded]; simp only [true_and]; rfl
  unfold State.endRestoreStep
  exact congrArg (State.restoreGoOn · eng (g.afterStep eng e.key o)) marked

/-- A search that the changed elements of a list have no part in. -/
theorem find_map_unwanted {p : Entry → Bool} {g : Entry → Entry} {es : List Entry}
    (h : ∀ y ∈ es, g y = y ∨ p y = false ∧ p (g y) = false) : (es.map g).find? p = es.find? p := by
  induction es with
  | nil => rfl
  | cons y ys ih =>
    have ih := ih fun z hz => h z (List.mem_cons_of_mem y hz)
    rcases h y List.mem_cons_self with same | ⟨before, after⟩
    · rw [List.map_cons, same, List.find?_cons, List.find?_cons, ih]
    · rw [List.map_cons, List.find?_cons_of_neg (by simp [after]),
        List.find?_cons_of_neg (by simp [before]), ih]

theorem stepEnded_nextEntry (eng : Engine) (e : Entry) (want : Entry → Bool) :
    (s.stepEnded eng e).nextEntry (some e.key) want = s.nextEntry (some e.key) want := by
  refine find_map_unwanted fun y _ => ?_
  by_cases h : y.key = e.key
  · refine .inr ⟨by simp [keyAbove, h], ?_⟩
    rw [if_pos h]
    simp [keyAbove, Entry.rewritten]
  · exact .inl (if_neg h)

/-- A look-up of another key does not see an entry that was put in its place. -/
theorem putEntry_entry_other {e e' : Entry} {k : Key} (key : e'.key = e.key) (other : e.key ≠ k) :
    (s.putEntry e.key e').entry k = s.entry k := find_map_unwanted fun z _ => by
  by_cases hz : z.key = e.key
  · exact .inr ⟨by simp [hz, other], by simp [hz, key, other]⟩
  · exact .inl (if_neg hz)

/-- The entry that a key finds after a step has ended. -/
theorem stepEnded_entry {eng : Engine} {e y : Entry} {k : Key} (found : s.entry e.key = some e)
    (other : s.entry k = some y) :
    (s.stepEnded eng e).entry k = some (if y.key = e.key then e.rewritten else y) := by
  have key := (entry_some other).2
  by_cases h : y.key = e.key
  · rw [if_pos h, ← key, h]
    exact putEntry_entry (e' := e.rewritten) found rfl
  · rw [if_neg h, ← other]
    exact putEntry_entry_other (e' := e.rewritten) rfl (key ▸ Ne.symm h)

theorem stepEnded_entry_none {eng : Engine} {e : Entry} {k : Key} (found : s.entry e.key = some e)
    (missing : s.entry k = none) : (s.stepEnded eng e).entry k = none := by
  refine entry_eq_none fun z hz => ?_
  obtain ⟨y, member, rfl⟩ := List.mem_map.1 hz
  split
  · exact entry_none missing e (entry_some found).1
  · exact entry_none missing y member

theorem stepEnded_logDrift (eng : Engine) (e : Entry) (k : DriftKind) (w : Option Byte) (a : Option Half)
    (x o : Option Byte) :
    (s.logDrift k w a x o).stepEnded eng e = (s.stepEnded eng e).logDrift k w a x o := by
  unfold State.stepEnded
  by_cases h : eng = .executor ∧ s.scrub.current = some e.key
  · rw [logDrift_scrub, if_pos h]; rfl
  · rw [logDrift_scrub, if_neg h]; rfl

theorem stepEnded_lastKey (eng : Engine) (e : Entry) (a : Fin 16) :
    (((s.stepEnded eng e).entriesOf a).getLast?).map Entry.key =
      ((s.entriesOf a).getLast?).map Entry.key := by
  let g (y : Entry) : Entry := if y.key = e.key then e.rewritten else y
  have key (y : Entry) : (g y).key = y.key := by
    simp only [g]
    split
    · rename_i h; exact h.symm
    · rfl
  have same : ((fun y : Entry => y.key.aliasNo == a) ∘ g) = fun y => y.key.aliasNo == a :=
    funext fun y => by simp only [Function.comp_apply, key]
  have keys : (s.stepEnded eng e).entriesOf a = (s.entriesOf a).map g := by
    change (s.image.entries.map g).filter _ = _
    rw [List.filter_map, same]
    rfl
  rw [keys, List.getLast?_map, Option.map_map]
  exact congrArg (Option.map · _) (funext key)

theorem restoreOutcome_ends {eng : Engine} {g : RestoreProgress} {k : Key} {o : BusOutcome}
    (step : g.step = some k) (ends : g.stage = .write ∨ o.isDone = false) :
    s.restoreOutcome eng g o = s.endRestoreStep eng g k o := by
  simp only [State.restoreOutcome, step]
  rcases ends with stage | failed
  · rw [stage]
  · cases o with
    | done v => cases failed
    | _ => cases g.stage <;> rfl

/-- Settles O30: the write after a base read, and the end of a step with what follows it. -/
theorem restoreStepsOn : Obligations.RestoreStepsOn := by
  intro p s f eng c turned g e x refused o v running rest rise busy own kept slot form scrubbing commanded
    step ofAlias found attached restoring port place outcome n holding goesOn failed g1 put stepped ended
    complete next marker
  obtain ⟨-, flight, empty⟩ := busy_fields busy
  have restores : s.Restores eng g := by
    cases eng with
    | scrub => exact scrubbing rfl
    | executor => exact ⟨c, turned, commanded rfl⟩
  have holds (t : State) (g' : RestoreProgress) (h : t.command = s.command) :
      t.setRestore eng g' = holding t g' := by
    cases eng with
    | scrub => rfl
    | executor =>
      simp only [State.setRestore, h, commanded rfl]
      rfl
  have notProbe : f.form ≠ .probe := by rw [form]; cases g.stage <;> nofun
  have reaches {o : BusOutcome} : s.outcomeOf p f o =
      (s.report g.aliasNo p f.busAddr o).restoreOutcome eng g o := by
    rw [outcomeOf_restore kept own notProbe restores, slot]
  have progress : g.afterStep eng e.key o = g1 := by
    cases eng <;> cases done : o.isDone <;>
      simp [RestoreProgress.afterStep, g1, failed, done, firstOf_eq]
  have run : exec (.transactionEnd p refused v) s = .next (s.endTransaction p f o) :=
    exec_transactionEnd running flight outcome
  let counted : State := s.setTarget g.aliasNo (some { x with failures := n })
  have held : counted.target g.aliasNo = some { x with failures := n } := target_setTarget s _ _
  have counts (below : o.isDone = false → n < s.settings.failThreshold.toNat) :
      s.report g.aliasNo p f.busAddr o = counted := by
    rw [← port, ← place]
    exact report_counts attached (endOutcome_counted outcome) below
  have sound : x.state ≠ .quarantined := by rw [restoring]; decide
  have finishes (u : State) (abandoned : Bool) (command : u.command = s.command)
      (last : ((u.entriesOf g.aliasNo).getLast?).map Entry.key =
        ((s.entriesOf g.aliasNo).getLast?).map Entry.key) (cursor : u.scrub.cursor = s.scrub.cursor) :
      u.endRestore eng g1 abandoned = ended u abandoned := by
    cases eng with
    | scrub =>
      have moved : (match (u.entriesOf g.aliasNo).getLast? with
          | some e => some e.key
          | none => u.scrub.cursor) =
          (((s.entriesOf g.aliasNo).getLast?).map Entry.key).or s.scrub.cursor := by
        rw [← last, cursor]
        cases (u.entriesOf g.aliasNo).getLast? <;> rfl
      exact congrArg (fun k => State.paced { u with scrub := { u.scrub with cursor := k } }) moved
    | executor =>
      simp only [State.endRestore, State.endExecutorRestore, command, commanded rfl]
      rfl
  refine ⟨fun read whole => ?_, fun stepEnds => ⟨fun below => ?_, fun failing reached => ?_⟩⟩
  · subst whole
    obtain rfl : o = .done v := by cases outcome; rfl
    have asks : s.outcomeOf p f (.done v) =
        (counted.setRestore eng { g with base := some v, stage := .write }, [(p, requestOf eng)]) := by
      have whole : counted.isQuarantined g.aliasNo = false := by
        rw [isQuarantined_eq held, restoring]; rfl
      rw [reaches, counts nofun]
      simp only [State.restoreOutcome, step, read, whole, Bool.and_false]
      exact congrArg (Prod.mk _) (port ▸ placeFor_eq held (requestOf eng))
    rw [run, endTransaction_restores rest empty asks (restores.congr ⟨rfl, rfl⟩ rfl) step found held sound
      nofun, holds counted _ rfl]
    have merged : writeStepForm (stageStep .write) e (some v) x.width =
        .write e.key.addr x.width ((e.expected &&& e.mask) ||| (v &&& ~~~e.mask)) := by
      rw [stageStep, writeStepForm, writeValue_some]
    exact congrArg (fun form => Host.Outcome.next (State.inFlight _ p
      (formedFlight eng g.aliasNo x.busAddr (s.busTiming p) form))) merged
  · have goes : s.outcomeOf p f o = stepped.restoreGoOn eng g1 := by
      rw [reaches, counts fun h => below.resolve_left (by simp [h]), restoreOutcome_ends step stepEnds,
        endRestoreStep_eq (s := counted) rise found, progress]
      rfl
    let walked : Target := { x with failures := n }
    have here : stepped.target g1.aliasNo = some walked := held
    have walk (want : Entry → Bool) : stepped.nextEntry (some e.key) want = s.nextEntry (some e.key) want :=
      stepEnded_nextEntry (s := counted) eng e want
    have lasts (general : g.phase = .general) : g1.lastWritten = some e.key := if_pos general
    have stillOwn : stepped.Restores eng g := by
      refine restores.congr ⟨?_, ?_⟩ rfl <;> simp only [stepped, put] <;> split <;> rfl
    have begins {y y' : Entry} {phase : RestorePhase} (entry : stepped.entry y'.key = some y')
        (step' : restoreStep g1 phase y' = restoreStep g1 phase y)
        (form' : restoreForm y' x.width = restoreForm y x.width)
        (h : stepped.restoreGoOn eng g1 =
          (stepped.setRestore eng (restoreStep g1 phase y'), [(x.port, requestOf eng)])) :
        exec (.transactionEnd p refused v) s =
          .next (goesOn stepped (restoreStep g1 phase y) (restoreForm y x.width)) := by
      rw [port] at h
      rw [run, endTransaction_beginsStep rest empty (goes.trans h) stillOwn entry here sound, step', form',
        holds stepped _ rfl]
    have completes (h : stepped.restoreGoOn eng g1 = (stepped.completeRestore eng g1, [])) :
        exec (.transactionEnd p refused v) s = .next complete := by
      let done : Target := { x with failures := n, state := .online, restorer := none }
      have released : stepped.setTarget g1.aliasNo (some done) = put done :=
        congrArg (fun w : State => w.stepEnded eng e)
          (setTarget_setTarget (s := s) g.aliasNo (some { x with failures := n }) (some done))
      have finished := finishes ((put done).logDrift .restoreDone (some (aliasByte g.aliasNo)) none none
        (some (byteHeld g1.written))) false rfl (stepEnded_lastKey (s := counted) eng e g.aliasNo)
        (by simp only [logDrift_scrub, put]; split <;> rfl)
      rw [run, endTransaction_ends rest empty (goes.trans h), completeRestore_eq here]
      change ((((stepped.setTarget g1.aliasNo (some done)).logDrift .restoreDone
        (some (aliasByte g.aliasNo)) none none (some (byteHeld g1.written))).endRestore eng g1 false).portIdle
          p |> Host.Outcome.next) = _
      rw [released, finished]
      rfl
    refine ⟨fun general => ⟨fun y higher => ?_, fun missing => ⟨fun y marked => ?_, fun unmarked => ?_⟩⟩,
      fun last => completes (restoreGoOn_complete (x := walked) here sound fun general => ?_)⟩
    · obtain ⟨member, above, -⟩ := nextEntry_some higher
      have apart : y.key ≠ e.key := fun h => by simp [keyAbove, h] at above
      have entry := stepEnded_entry (s := counted) (eng := eng) found (entry_of_mem rise member)
      rw [if_neg apart] at entry
      exact begins entry rfl rfl (restoreGoOn_general (x := walked) here sound general
        (by rw [lasts general]; exact (walk _).trans higher))
    · obtain ⟨addr, name, standing⟩ := Option.bind_eq_some_iff.1 marked
      have entry := stepEnded_entry (s := counted) (eng := eng) found standing
      let y' : Entry := if y.key = e.key then e.rewritten else y
      have key : y'.key = y.key := by
        simp only [y']
        split
        · rename_i h; exact h.symm
        · rfl
      have same : y' = y ∨ y' = y.rewritten := by
        simp only [y']
        split
        · rename_i h
          exact .inr (congrArg _ (rise.unique (entry_some found).1 (entry_some standing).1 h.symm))
        · exact .inl rfl
      have entry' : stepped.entry y'.key = some y' := by
        rw [key, (entry_some standing).2]
        exact entry
      have step' : restoreStep g1 .marker y' = restoreStep g1 .marker y := by
        rcases same with h | h
        · rw [h]
        · rw [h]; rfl
      have form' : restoreForm y' x.width = restoreForm y x.width := by
        rcases same with h | h
        · rw [h]
        · rw [h]; rfl
      exact begins entry' step' form' (restoreGoOn_marker (x := walked) here sound general
        (by rw [lasts general]; exact (walk _).trans missing)
        (Option.bind_eq_some_iff.2 ⟨addr, name, entry⟩))
    · refine completes (restoreGoOn_complete (x := walked) here sound fun _ => ?_)
      rw [lasts general]
      refine ⟨(walk _).trans missing, Option.bind_eq_none_iff.2 fun addr name => ?_⟩
      exact stepEnded_entry_none (s := counted) (eng := eng) found
        (Option.bind_eq_none_iff.1 unmarked addr name)
    · exact absurd (last.symm.trans general) (by decide)
  · let stopped : Target := { x with failures := n, state := .quarantined }
    let withdrawn : Target := { stopped with restorer := none }
    have fails : n = min (x.failures + 1) 15 := if_neg (by rw [failing]; decide)
    let quarantined : State := (s.setTarget g.aliasNo (some stopped)).logDrift .quarantined
      (some (aliasByte g.aliasNo)) none none none
    have reports : s.report g.aliasNo p f.busAddr o =
        quarantined := by
      have report := ((((reportsAreCounted s g.aliasNo p f.busAddr o).2 x attached port place).2.2 failing
        (endOutcome_counted outcome)).1 sound (fails ▸ reached)).1
      rw [← fails] at report
      exact report
    let u : State := (s.setTarget g.aliasNo (some stopped)).stepEnded eng e
    have heldBack : u.target g.aliasNo = some stopped := target_setTarget s _ _
    have goes : s.outcomeOf p f o = ((u.logDrift .quarantined (some (aliasByte g.aliasNo)) none none
        none).abandonRestore eng g1, []) := by
      rw [reaches, reports, restoreOutcome_ends step stepEnds, endRestoreStep_eq (s := quarantined) rise found,
        progress, stepEnded_logDrift, State.restoreGoOn]
      have stops : u.isQuarantined g.aliasNo = true := by
        rw [isQuarantined_eq heldBack]
        rfl
      exact if_pos stops
    have released : u.setTarget g.aliasNo (some withdrawn) = put withdrawn :=
      congrArg (State.stepEnded · eng e)
        (setTarget_setTarget (s := s) g.aliasNo (some stopped) (some withdrawn))
    have abandons : (u.logDrift .quarantined (some (aliasByte g.aliasNo)) none none
        none).abandonRestore eng g1 = (((put withdrawn).logDrift .quarantined (some (aliasByte g.aliasNo))
          none none none).logDrift .restoreAbandoned (some (aliasByte g.aliasNo)) none none
            none).endRestore eng g1 true := by
      rw [← released, State.abandonRestore, modifyTarget_some (s := u.logDrift .quarantined
        (some (aliasByte g.aliasNo)) none none none) (a := g1.aliasNo) heldBack]
      rfl
    rw [run, endTransaction_ends rest empty goes, abandons, finishes]
    · rfl
    · exact stepEnded_lastKey (s := s) eng e g.aliasNo
    · simp only [logDrift_scrub, put]
      split <;> rfl

end Machine
end Sys2Proof
end

section
/-! PROOF. The claim of a marker that reads at its reset value (R40, R42, R56, R57, R59, R60, R64, R66, R76,
R135). -/

namespace Sys2Proof
namespace Machine

variable {s t : State} {p : PortId} {f : Flight}

/-- The marker after it was read at its reset value: nothing but last observed moves (R57). -/
def Entry.observed (e : Entry) (v : Byte) : Entry := { e with lastObserved := some (v &&& e.mask) }

/-- A claim taken on a read: the marker's last observed, the claim, and the record (R56, R57). -/
theorem takeDetection_claims {e : Entry} {x : Target} {v : Byte} {eng : Engine}
    (rise : KeysRise s.image.entries) (found : s.entry e.key = some e)
    (attached : s.target e.key.aliasNo = some x) : s.takeDetection e v eng =
      ((s.putEntry e.key (e.observed v)).setTarget e.key.aliasNo
        (some { x with state := .restoring, restorer := some eng })).logDrift .targetReset
          (some (aliasByte e.key.aliasNo)) (some e.key.addr) (some e.expected) (some (v &&& e.mask)) := by
  have observed : (s.modifyEntry e.key fun y => { y with lastObserved := some (v &&& e.mask) }) =
      s.putEntry e.key (e.observed v) := modifyEntry_eq rise (entry_some found).1 _
  rw [State.takeDetection, observed, State.claimTarget,
    modifyTarget_some (s := s.putEntry e.key (e.observed v)) attached]
  rfl

/-- The first entry of a restore's walk with its phase: the HOLD or RESTORE_ONLY entry with the lowest
key, or the marker where there is none (R59). -/
def State.firstStep (s : State) (e : Entry) : Entry × RestorePhase :=
  match s.nextEntry none fun y =>
    y.key.aliasNo == e.key.aliasNo && (y.cls == .hold || y.cls == .restoreOnly) with
  | some y => (y, .general)
  | none => (e, .marker)

/-- The restore that a marker's reading began puts its first step onto the port that becomes IDLE
(R59, R60, R102). -/
theorem endTransaction_beginsRestore {eng : Engine} {o : BusOutcome} {e : Entry} {x : Target} {v : Byte}
    (rest : s.atRest = true) (empty : (s.port p).waiting = []) (rise : KeysRise s.image.entries)
    (found : s.entry e.key = some e) (isMarker : e.cls = .marker)
    (asks : s.outcomeOf p f o = t.restoreGoOn eng (RestoreProgress.start e.key.aliasNo))
    (own : (t.setRestore eng (RestoreProgress.start e.key.aliasNo)).Restores eng
      (RestoreProgress.start e.key.aliasNo))
    (table : t.image.entries = (s.putEntry e.key (e.observed v)).image.entries)
    (attached : t.target e.key.aliasNo = some x) (sound : x.state ≠ .quarantined)
    (port : x.port = p) (marker : x.marker = some e.key.addr) :
    s.endTransaction p f o = ((t.setRestore eng (restoreStep (RestoreProgress.start e.key.aliasNo)
      (s.firstStep e).2 (s.firstStep e).1)).portIdle p).inFlight p (formedFlight eng e.key.aliasNo
        x.busAddr (s.busTiming p) (restoreForm (s.firstStep e).1 x.width)) := by
  let g := RestoreProgress.start e.key.aliasNo
  have begins {y y' : Entry} {phase : RestorePhase} (entry : t.entry y'.key = some y')
      (step : restoreStep g phase y' = restoreStep g phase y)
      (form : restoreForm y' x.width = restoreForm y x.width)
      (goesOn : t.restoreGoOn eng g =
        (t.setRestore eng (restoreStep g phase y'), [(x.port, requestOf eng)])) :
      s.endTransaction p f o = ((t.setRestore eng (restoreStep g phase y)).portIdle p).inFlight p
        (formedFlight eng e.key.aliasNo x.busAddr (s.busTiming p) (restoreForm y x.width)) := by
    have whole : s.outcomeOf p f o = ((t.setRestore eng g).setRestore eng (restoreStep g phase y'),
        [(p, requestOf eng)]) := by
      rw [asks, setRestore_setRestore, ← port]
      exact goesOn
    rw [endTransaction_beginsStep (x := x) rest empty whole own
      (by rw [entry_congr (setRestore_image ..)]; exact entry)
      (by rw [target_congr (setRestore_targets ..)]; exact attached) sound, setRestore_setRestore, step, form]
    rfl
  have seen (k : Key) : t.entry k = (s.putEntry e.key (e.observed v)).entry k :=
    congrArg (List.find? fun y : Entry => y.key == k) table
  let wanted (y : Entry) : Bool := y.key.aliasNo == e.key.aliasNo && y.restored
  have notWanted (y : Entry) (h : y.cls = .marker) : wanted y = false := by
    simp [wanted, Entry.restored, h]
  have walk : t.nextEntry none wanted = s.nextEntry none wanted := by
    rw [nextEntry_congr (s := s.putEntry e.key (e.observed v)) table]
    refine find_map_unwanted fun y member => ?_
    by_cases h : y.key = e.key
    · obtain rfl := rise.unique member (entry_some found).1 h
      refine .inr ⟨by simp [notWanted y isMarker], ?_⟩
      rw [if_pos rfl]
      simp [notWanted (y.observed v) isMarker]
    · exact .inl (if_neg h)
  have first : s.firstStep e = match s.nextEntry none wanted with
      | some y => (y, .general)
      | none => (e, .marker) := rfl
  rw [first]
  cases next : s.nextEntry none wanted with
  | some y =>
    obtain ⟨member, -, isWanted⟩ := nextEntry_some next
    have apart : e.key ≠ y.key := fun h => by
      rw [notWanted y (by rw [← rise.unique (entry_some found).1 member h]; exact isMarker)] at isWanted
      cases isWanted
    have entry : t.entry y.key = some y := by
      rw [seen, putEntry_entry_other (e := e) (e' := e.observed v) rfl apart]
      exact entry_of_mem rise member
    exact begins entry rfl rfl (restoreGoOn_general (g := g) attached sound rfl (walk.trans next))
  | none =>
    have entry : t.entry e.key = some (e.observed v) := by
      rw [seen]
      exact putEntry_entry found rfl
    exact begins (y' := e.observed v) entry rfl rfl (restoreGoOn_marker (g := g) attached sound rfl
      (walk.trans next) (by rw [marker]; exact entry))

/-- Settles O29: the claim with the first step of the restore, or the discard, by either engine. -/
theorem markerAtResetValueIsClaimed : Obligations.MarkerAtResetValueIsClaimed := by
  intro p s f e x r v running rest rise busy form kept slot found isMarker resets reset attached port place
    marker counted claimed first progress flying
  obtain ⟨-, flight, empty⟩ := busy_fields busy
  have notProbe : f.form ≠ .probe := by rw [form]; nofun
  have atReset : e.atResetValue v = true := atResetValue_iff.2 ⟨isMarker, r, resets, reset⟩
  have run : exec (.transactionEnd p none v) s = .next (s.endTransaction p f (.done v)) :=
    exec_transactionEnd (o := .done v) running flight (by rw [form]; rfl)
  have held : counted.target e.key.aliasNo = some { x with failures := 0 } := target_setTarget s _ _
  have ends {u : State} (h : s.outcomeOf p f (.done v) = (u, [])) :
      exec (.transactionEnd p none v) s = .next (u.portIdle p) := by
    rw [run, endTransaction_ends rest empty h]
  have claims (eng : Engine) : counted.takeDetection e v eng = claimed eng := by
    rw [takeDetection_claims (s := counted) rise found held]
    have twice := setTarget_setTarget (s := s) e.key.aliasNo (some { x with failures := 0 })
      (some { x with failures := 0, state := .restoring, restorer := some eng })
    exact congrArg (fun u : State => (u.putEntry e.key (e.observed v)).logDrift .targetReset
      (some (aliasByte e.key.aliasNo)) (some e.key.addr) (some e.expected) (some (v &&& e.mask))) twice
  have here (eng : Engine) : (claimed eng).target e.key.aliasNo =
      some { x with failures := 0, state := .restoring, restorer := some eng } := target_setTarget s _ _
  refine ⟨fun own reading current => ?_, fun b w own named command reads => ?_⟩
  · have reaches : s.outcomeOf p f (.done v) = counted.scrubReadOutcome e.key (.done v) := by
      rw [outcomeOf_scrub (o := .done v) kept own (slot ▸ attached) port place nofun nofun, slot]
      change counted.scrubOutcome _ = _
      have reading : counted.scrub.state = .readWait := reading
      have current : counted.scrub.current = some e.key := current
      simp only [State.scrubOutcome, reading, current]
    have found' : counted.entry e.key = some e := found
    refine ⟨fun fresh online => ?_, fun discards => ends (reaches.trans ?_)⟩
    · have fresh : counted.scrub.stale = false := fresh
      let u : State := { claimed .scrub with scrub := { s.scrub with state := .restore, current := none } }
      have goes : s.outcomeOf p f (.done v) =
          u.restoreGoOn .scrub (RestoreProgress.start e.key.aliasNo) := by
        have unclaimed : counted.isRestoredBy e.key.aliasNo .executor = false := by
          rw [isRestoredBy_eq held, online]; rfl
        have isOnline : counted.isOnline e.key.aliasNo = true := by
          rw [isOnline_eq held, online]; rfl
        rw [reaches]
        simp only [State.scrubReadOutcome, fresh, unclaimed, found', atReset, State.scrubDetection, isOnline,
          claims]
        rfl
      rw [run, endTransaction_beginsRestore (t := u) rest empty rise found isMarker goes ⟨rfl, rfl⟩ rfl
        (here .scrub) nofun port marker]
      rfl
    · by_cases stale : counted.scrub.stale = true
      · simp only [State.scrubReadOutcome, stale]
        rfl
      · have fresh : counted.scrub.stale = false := by simpa using stale
        have offline : counted.isOnline e.key.aliasNo = false := by
          rw [isOnline_eq held]
          simpa using discards.resolve_left stale
        simp only [State.scrubReadOutcome, fresh, found', atReset, State.scrubDetection, offline]
        cases counted.isRestoredBy e.key.aliasNo .executor <;> rfl
  · intro ended
    let c : Staged := stagedOf .verify b
    have reaches : s.outcomeOf p f (.done v) =
        counted.verifyDetection c (w.after e.key (.done v) false) e v := by
      rw [outcomeOf_executor (o := .done v) kept own notProbe (slot ▸ attached) port place nofun nofun, slot]
      change counted.executorOutcome _ = _
      have command : counted.command = some { staged := c, progress := .verify w } := command
      have found' : counted.entry e.key = some e := found
      simp only [State.executorOutcome, command, State.verifyOutcome, reads, found', atReset, if_true]
    have isOnline := isOnline_eq held
    have isQuarantined := isQuarantined_eq held
    refine ⟨fun online => ?_, fun restoring => ends (reaches.trans ?_),
      fun quarantined => ends (reaches.trans ?_)⟩
    · let u : State := (claimed .executor).working c (.restore (RestoreProgress.start e.key.aliasNo) true)
      have goes : s.outcomeOf p f (.done v) =
          u.restoreGoOn .executor (RestoreProgress.start e.key.aliasNo) := by
        rw [online] at isOnline
        rw [reaches]
        simp only [State.verifyDetection, isOnline, claims]
        rfl
      rw [run, endTransaction_beginsRestore (t := u) rest empty rise found isMarker goes ⟨c, true, rfl⟩ rfl
        (here .executor) nofun port marker]
      rfl
    · rw [restoring] at isOnline isQuarantined
      simp only [State.verifyDetection, isOnline, isQuarantined]
      rfl
    · rw [quarantined] at isOnline isQuarantined
      simp only [State.verifyDetection, isOnline, isQuarantined]
      rfl

end Machine
end Sys2Proof
end
